-- ==== Sys2Proof/Word.lean ====
section
/-! DEFINITION. The word types of the link core and their plainest arithmetic.

Bit 0 is the least significant bit and nothing is signed (R12). -/

namespace Sys2Proof

/-- A byte on the wire or in a buffer entry (R12). -/
abbrev Byte := BitVec 8

/-- One word of the host register bus (R80). -/
abbrev Word := BitVec 32

/-- A byte address of the host register space, `bus_addr[9:0]` (R80). -/
abbrev Offset := BitVec 10

/-- The accumulator of the CRC engine (R150). -/
abbrev Crc := BitVec 16

/-- A count of ticks: the timer, a window or a delay (R36, R37, R39, R356). -/
abbrev Ticks := BitVec 24

/-- A length register or an internal count of bytes, 0..127 (R40, R43). -/
abbrev Len := BitVec 7

/-- Bits [15:8] of a 16-bit value (R12). -/
def hiByte (c : Crc) : Byte := c.extractLsb' 8 8

/-- Bits [7:0] of a 16-bit value (R12). -/
def loByte (c : Crc) : Byte := c.extractLsb' 0 8

end Sys2Proof
end

