-- ==== Sys2Proof/Syntax.lean ====
section
/-! DEFINITION. The syntax: the operations the host starts (R2), the register map's names (R31), and the
three enumerations that share the type byte of a frame (R124). -/

namespace Sys2Proof

/-- The seven operations that a CMD word starts (R111). -/
inductive Op where
  | build | send | sendAck | poll | copyDl | copyResp | waitDl
deriving DecidableEq, Repr

/-- One constructor for each row of spec/opcode_table.json.

The first seven are CMD words (R110): `code` is the field CODE and the Nat is the field LEN, which the
operations use as a count (R113). A field that an operation ignores is kept, since the sequencer copies
every field (R112). The last two are bus writes to CRC_ACC and CRC_DATA with the word written (R160, R161). -/
inductive Instr where
  /-- BUILD (R186). -/
  | build (code : Byte) (len : Nat)
  /-- SEND (R270). -/
  | send (code : Byte) (len : Nat)
  /-- SEND_ACK (R260). -/
  | sendAck (code : Byte) (len : Nat)
  /-- POLL (R295). Both fields are ignored. -/
  | poll (code : Byte) (len : Nat)
  /-- COPY_DL (R300). CODE is ignored. -/
  | copyDl (code : Byte) (maxSize : Nat)
  /-- COPY_RESP (R301). CODE is ignored. -/
  | copyResp (code : Byte) (maxSize : Nat)
  /-- WAIT_DL (R310). CODE is ignored. -/
  | waitDl (code : Byte) (maxPollAttempts : Nat)
  /-- CRC_SEED (R160): a write of `data` to CRC_ACC. -/
  | crcSeed (data : Word)
  /-- CRC_BYTE (R161): a write of `data` to CRC_DATA. -/
  | crcByte (data : Word)
deriving DecidableEq, Repr

/-- One write on the host register bus: the byte address and the word (R80). -/
structure BusWrite where
  offset : Offset
  data : Word
deriving DecidableEq, Repr

/-- The registers and buffer entries of the map of R31. -/
inductive Reg where
  | cmd | status | result | ctrl | ackTimeout | retryDelay | maxAttempts | pollTimeout
  | crcAcc | crcData | dlLen | respLen | frameLen | config | config2
  | txbuf (i : BitVec 6) | txframe (i : BitVec 6) | rxwin (i : BitVec 6)
deriving DecidableEq, Repr

/-- The closed set of outbound commands (R122, R125). -/
inductive OutboundCommand where
  | sendVld | inqVersion | inqMac | inqNettime | inqQuality | inqStatus | setTest
deriving DecidableEq, Repr

/-- The inbound response codes of R126. -/
inductive InboundResponse where
  | downlink | ack | bufferFull | lengthError | crcError | setOk | setFail
deriving DecidableEq, Repr

/-- The inbound module status codes of R126. The block attaches no meaning to them (R124). -/
inductive ModuleStatus where
  | unregistered | registered | longSleep | shortSleep
deriving DecidableEq, Repr

end Sys2Proof
end

