-- ==== Sys2Proof/Config.lean ====
section
/-! DEFINITION. The fixed parameters (R9), the open parameters (R10), the test profile (R11) and the free
values: constants without a body, of which nothing can be proved. -/

namespace Sys2Proof

/-- The datapath of the CRC engine (R157). It shows only in CONFIG[24] (R44). -/
inductive CrcImpl where
  | bitSerial | byteParallel
deriving DecidableEq, Repr, Inhabited

/-- The code values that the source leaves open (R10): seven outbound commands and eleven inbound codes. -/
structure Codes where
  cmdSendVld : Byte
  cmdInqVersion : Byte
  cmdInqMac : Byte
  cmdInqNettime : Byte
  cmdInqQuality : Byte
  cmdInqStatus : Byte
  cmdSetTest : Byte
  respDownlink : Byte
  respAck : Byte
  respBufferFull : Byte
  respLengthError : Byte
  respCrcError : Byte
  respSetOk : Byte
  respSetFail : Byte
  statusUnregistered : Byte
  statusRegistered : Byte
  statusLongSleep : Byte
  statusShortSleep : Byte
deriving DecidableEq, Repr, Inhabited

/-- The byte of an outbound command (R125). -/
def Codes.command (c : Codes) : OutboundCommand → Byte
  | .sendVld => c.cmdSendVld
  | .inqVersion => c.cmdInqVersion
  | .inqMac => c.cmdInqMac
  | .inqNettime => c.cmdInqNettime
  | .inqQuality => c.cmdInqQuality
  | .inqStatus => c.cmdInqStatus
  | .setTest => c.cmdSetTest

/-- The byte of an inbound response code (R126). -/
def Codes.response (c : Codes) : InboundResponse → Byte
  | .downlink => c.respDownlink
  | .ack => c.respAck
  | .bufferFull => c.respBufferFull
  | .lengthError => c.respLengthError
  | .crcError => c.respCrcError
  | .setOk => c.respSetOk
  | .setFail => c.respSetFail

/-- The byte of a module status code (R126). No operation compares a byte with it (R124). -/
def Codes.moduleStatus (c : Codes) : ModuleStatus → Byte
  | .unregistered => c.statusUnregistered
  | .registered => c.statusRegistered
  | .longSleep => c.statusLongSleep
  | .shortSleep => c.statusShortSleep

/-- The open parameters of R10. `tickPeriod` (D3) and `base` (R91) are the platform's: no step reads
them (log 6). -/
structure Params where
  codes : Codes
  crcImpl : CrcImpl
  tickPeriod : Nat
  base : Nat
deriving DecidableEq, Repr, Inhabited

/-- The six byte buffers of R45. -/
inductive Buffer where
  | txbuf | txframe | rxwin | dlslot | respslot | stg
deriving DecidableEq, Repr

namespace Config

/-- FRAME_MAX (R9). -/
def frameMax : Nat := 64
/-- PAYLOAD_MAX (R9, C1). -/
def payloadMax : Nat := 58
/-- DLEN_MIN (R9). -/
def dlenMin : Nat := 3
/-- DLEN_MAX (R9). -/
def dlenMax : Nat := 61
/-- MARKER1 (R9). -/
def marker1 : Byte := 0xFA#8
/-- MARKER2 (R9). -/
def marker2 : Byte := 0xF5#8
/-- CRC_POLY (R9). -/
def crcPoly : Crc := 0x1021#16
/-- CRC_INIT (R9). -/
def crcInit : Crc := 0x0000#16
/-- SETTLE_TICKS (R9). -/
def settleTicks : Ticks := 20#24
/-- POLL_SLEEP_TICKS (R9). -/
def pollSleepTicks : Ticks := 1000#24
/-- Default MAX_ATTEMPTS (R9, R38). -/
def defaultMaxAttempts : Byte := 3#8
/-- Default RETRY_DELAY (R9, R37). -/
def defaultRetryDelay : Ticks := 60000#24
/-- Default ACK_TIMEOUT (R9, R36). -/
def defaultAckTimeout : Ticks := 3000#24
/-- Default POLL_TIMEOUT (R9, R39). -/
def defaultPollTimeout : Ticks := 3000#24

/-- The test profile TP (R11): codes for test vectors only, not the module's code set. -/
def testCodes : Codes where
  cmdSendVld := 0xA1#8
  cmdInqVersion := 0xA2#8
  cmdInqMac := 0xA3#8
  cmdInqNettime := 0xA4#8
  cmdInqQuality := 0xA5#8
  cmdInqStatus := 0xA6#8
  cmdSetTest := 0xA7#8
  respDownlink := 0xB1#8
  respAck := 0xB2#8
  respBufferFull := 0xB3#8
  respLengthError := 0xB4#8
  respCrcError := 0xB5#8
  respSetOk := 0xB6#8
  respSetFail := 0xB7#8
  statusUnregistered := 0xB8#8
  statusRegistered := 0xB9#8
  statusLongSleep := 0xBA#8
  statusShortSleep := 0xBB#8

/-- The test profile with a bit-serial datapath, for tests only (R11). -/
def testParams : Params where
  codes := testCodes
  crcImpl := .bitSerial
  tickPeriod := 1
  base := 0

/-- FREE VALUE: the open parameters of this machine (R10, I4-I7; log 4). A claim holds for every value. -/
opaque params : Params

/-- FREE VALUE: what entry `i` of buffer `b` holds after reset number `epoch`, until it is written
(R45, R381, U1; log 7). -/
opaque unwrittenByte (epoch : Nat) (b : Buffer) (i : Nat) : Byte

/-- FREE VALUE: the byte of the `n`-th read of TXFRAME or RXWIN made while the operation that fills it runs
(R89, U3, U4; log 9). -/
opaque busyByte (n : Nat) : Byte

end Config

end Sys2Proof
end

