-- ==== Sys2Proof/WellFormed.lean ====
section
/-! DEFINITION. When an instruction and a set of open parameters are well formed. -/

namespace Sys2Proof

/-- An operand fits the field that encodes it: LEN has 8 bits (R110, R113). CODE and the CRC words are typed
by their width. -/
def Instr.wellFormed : Instr → Bool
  | .build _ len | .send _ len | .sendAck _ len | .poll _ len => decide (len < 256)
  | .copyDl _ maxSize | .copyResp _ maxSize => decide (maxSize < 256)
  | .waitDl _ maxPollAttempts => decide (maxPollAttempts < 256)
  | .crcSeed _ | .crcByte _ => true

/-- The seven outbound command bytes, in the order of R10. -/
def Codes.outbound (c : Codes) : List Byte :=
  [c.cmdSendVld, c.cmdInqVersion, c.cmdInqMac, c.cmdInqNettime, c.cmdInqQuality, c.cmdInqStatus, c.cmdSetTest]

/-- The constraints of R10: the outbound commands are pairwise distinct and the two inbound codes that change
the block's behaviour differ. -/
def Codes.wellFormed (c : Codes) : Bool :=
  decide (c.outbound.Pairwise (· ≠ ·)) && decide (c.respDownlink ≠ c.respAck)

/-- R10 with D3: a tick period is positive. -/
def Params.wellFormed (p : Params) : Bool :=
  p.codes.wellFormed && decide (0 < p.tickPeriod)

end Sys2Proof
end

