-- ==== Sys2Proof/Decode.lean ====
section
/-! DEFINITION. Decoding a bus write into an instruction or a refusal by name, the address decode of the
register map, and the encoder. -/

namespace Sys2Proof

/-! ### Operation codes (R111) -/

/-- The byte `OP` of an operation (R111). -/
def Op.byte : Op → Byte
  | .build => 0x01#8
  | .send => 0x02#8
  | .sendAck => 0x03#8
  | .poll => 0x04#8
  | .copyDl => 0x05#8
  | .copyResp => 0x06#8
  | .waitDl => 0x07#8

/-- The operation of a byte `OP`, none for 0x00 and 0x08..0xFF (R111, R114). -/
def opOfByte (b : Byte) : Option Op :=
  match b.toNat with
  | 0x01 => some .build
  | 0x02 => some .send
  | 0x03 => some .sendAck
  | 0x04 => some .poll
  | 0x05 => some .copyDl
  | 0x06 => some .copyResp
  | 0x07 => some .waitDl
  | _ => none

/-! ### The fields of a CMD word (R110) -/

/-- `OP`, bits [7:0] (R110). -/
def opField (w : Word) : Byte := w.extractLsb' 0 8
/-- `CODE`, bits [15:8] (R110). -/
def codeField (w : Word) : Byte := w.extractLsb' 8 8
/-- `LEN`, bits [23:16] (R110). -/
def lenField (w : Word) : Byte := w.extractLsb' 16 8
/-- `RSV`, bits [31:24], which must be 0 (R110). -/
def rsvField (w : Word) : Byte := w.extractLsb' 24 8

/-- A CMD word from its fields: `00000000 LLLLLLLL CCCCCCCC OOOOOOOO`, bit 31 first (R110). -/
def cmdWord (op : Op) (code : Byte) (len : Nat) : Word :=
  0x00#8 ++ BitVec.ofNat 8 len ++ code ++ op.byte

/-! ### Address decode (R31, R83) -/

/-- An access is aligned when `bus_addr[1:0]` is 0b00 (R81). -/
def aligned (a : Offset) : Bool := a.extractLsb' 0 2 == 0#2

/-- The register at an aligned offset below 0x100, none where the map has a hole (R31, R83). -/
def lowRegister (a : Offset) : Option Reg :=
  match a.toNat with
  | 0x000 => some .cmd
  | 0x004 => some .status
  | 0x008 => some .result
  | 0x00C => some .ctrl
  | 0x010 => some .ackTimeout
  | 0x014 => some .retryDelay
  | 0x018 => some .maxAttempts
  | 0x01C => some .pollTimeout
  | 0x020 => some .crcAcc
  | 0x024 => some .crcData
  | 0x028 => some .dlLen
  | 0x02C => some .respLen
  | 0x030 => some .frameLen
  | 0x034 => some .config
  | 0x038 => some .config2
  | _ => none

/-- The register or buffer entry of an aligned offset: the three windows of 64 words are fully mapped
(R31, R83). -/
def registerAt (a : Offset) : Option Reg :=
  match (a.extractLsb' 8 2).toNat with
  | 0 => lowRegister a
  | 1 => some (.txbuf (a.extractLsb' 2 6))
  | 2 => some (.txframe (a.extractLsb' 2 6))
  | _ => some (.rxwin (a.extractLsb' 2 6))

/-- The offset of a register or buffer entry (R31). -/
def Reg.offset : Reg → Offset
  | .cmd => 0x000#10
  | .status => 0x004#10
  | .result => 0x008#10
  | .ctrl => 0x00C#10
  | .ackTimeout => 0x010#10
  | .retryDelay => 0x014#10
  | .maxAttempts => 0x018#10
  | .pollTimeout => 0x01C#10
  | .crcAcc => 0x020#10
  | .crcData => 0x024#10
  | .dlLen => 0x028#10
  | .respLen => 0x02C#10
  | .frameLen => 0x030#10
  | .config => 0x034#10
  | .config2 => 0x038#10
  | .txbuf i => 1#2 ++ i ++ 0#2
  | .txframe i => 2#2 ++ i ++ 0#2
  | .rxwin i => 3#2 ++ i ++ 0#2

/-! ### Decoding -/

/-- Why a bus write is no operation of the table. None of them stops the machine: the step performs what the
spec says of each. -/
inductive DecodeError where
  /-- `bus_addr[1:0] ≠ 0` (R81). -/
  | misaligned
  /-- An aligned offset that the map does not list (R83). -/
  | unmapped
  /-- A CMD word with `RSV ≠ 0` (R114). -/
  | reservedBits
  /-- A CMD word with `OP` 0x00 or 0x08..0xFF (R114). -/
  | illegalOp
  /-- A write to a register that starts no operation (R87). -/
  | registerWrite (r : Reg)
deriving DecidableEq, Repr

/-- The instruction of an operation and its operand fields (R111, R113). -/
def Op.instr (code : Byte) (len : Nat) : Op → Instr
  | .build => .build code len
  | .send => .send code len
  | .sendAck => .sendAck code len
  | .poll => .poll code len
  | .copyDl => .copyDl code len
  | .copyResp => .copyResp code len
  | .waitDl => .waitDl code len

/-- The operation of a CMD word (R110, R114, R115). -/
def decodeCmd (w : Word) : Except DecodeError Instr :=
  if rsvField w ≠ 0#8 then .error .reservedBits
  else
    match opOfByte (opField w) with
    | some op => .ok (op.instr (codeField w) (lenField w).toNat)
    | none => .error .illegalOp

/-- The instruction of a bus write, or why it is none: total on every address and word (R31, R83, R110,
R160, R161). -/
def decode (b : BusWrite) : Except DecodeError Instr :=
  if aligned b.offset then
    match registerAt b.offset with
    | none => .error .unmapped
    | some .cmd => decodeCmd b.data
    | some .crcAcc => .ok (.crcSeed b.data)
    | some .crcData => .ok (.crcByte b.data)
    | some r => .error (.registerWrite r)
  else .error .misaligned

/-! ### Encoding -/

/-- The bus write of an instruction (R110, R117, R160, R161). -/
def encode : Instr → BusWrite
  | .build code len => ⟨0x000#10, cmdWord .build code len⟩
  | .send code len => ⟨0x000#10, cmdWord .send code len⟩
  | .sendAck code len => ⟨0x000#10, cmdWord .sendAck code len⟩
  | .poll code len => ⟨0x000#10, cmdWord .poll code len⟩
  | .copyDl code maxSize => ⟨0x000#10, cmdWord .copyDl code maxSize⟩
  | .copyResp code maxSize => ⟨0x000#10, cmdWord .copyResp code maxSize⟩
  | .waitDl code maxPollAttempts => ⟨0x000#10, cmdWord .waitDl code maxPollAttempts⟩
  | .crcSeed data => ⟨0x020#10, data⟩
  | .crcByte data => ⟨0x024#10, data⟩

/-! ### The host's numbering of the table -/

/-- The bus write that a table number stands for. A row of 32 bits is the word written to CMD. A row of fewer
bits is a bus byte offset (the table's note on CRC_SEED and CRC_BYTE), and the word written, which the table
gives no bits, is 0. None where the number does not fit (log 19). -/
def tableWrite (nbits w : Nat) : Option BusWrite :=
  if 32 ≤ nbits then
    if w < 2 ^ 32 then some ⟨0x000#10, BitVec.ofNat 32 w⟩ else none
  else
    if w < 2 ^ 10 then some ⟨BitVec.ofNat 10 w, 0#32⟩ else none

/-- The instruction the decoder reads from a table number. -/
def decodeTableWord (nbits w : Nat) : Option Instr :=
  match tableWrite nbits w with
  | none => none
  | some b =>
    match decode b with
    | .ok i => some i
    | .error _ => none

end Sys2Proof
end

