-- ==== Sys2Proof/Machine/State.lean ====
section
/-! DEFINITION. The state of the link core and of the agents around it (R30), the reasons a step could stop, and
the state after reset (R381). -/

namespace Sys2Proof.Machine

/-- The phases of the sequencer (R41). -/
inductive Phase where
  | idle
  | build
  | txSettle1 | txBytes | txFlush | txSettle2
  | rxHdr | rxBody | rxCheck
  | retryWait
  | pollSleep
  | store | copy
deriving DecidableEq, Repr

/-- The outcome of the last receive, `st.rx` (R40, R235). -/
inductive RxOutcome where
  | frame | truncated | crcMismatch | badLength
deriving DecidableEq, Repr

/-- The result codes of R341. The reserved codes 10..15 have no constructor (E3). -/
inductive Res where
  | none | ok | invalidArg | noAck | empty | truncated | crcMismatch | badLength | waitExhausted | illegalOp
deriving DecidableEq, Repr

/-- The fields of RESULT (R34). -/
structure Result where
  res : Res
  cls : Bool
  rcode : Byte
  count : Byte
  opc : Byte
deriving DecidableEq, Repr

/-- The answer of a completed bus access (R50). `rdata` is absent for a write that completes without a bus
error, to which the spec gives no read data (log 11). -/
structure BusReply where
  err : Bool
  rdata : Option Word
deriving DecidableEq, Repr

/-- What an agent may do next (R8). The host, the channel, the time base and the platform act through these
events. -/
inductive Event where
  /-- The host writes a word (R80). -/
  | write (b : BusWrite)
  /-- The host reads a word (R80). -/
  | read (a : Offset)
  /-- The channel appends a received byte to its RX buffer (R51). -/
  | arrive (b : Byte)
  /-- The channel is ready to accept a byte to transmit, `tx_ready` (R46). -/
  | accept
  /-- The oldest accepted byte leaves the channel's transmitter (R46). -/
  | sent
  /-- One event of the time base (R355). -/
  | tick
  /-- The core takes its own next step, if one is enabled (R8(2)). -/
  | core
  /-- The platform resets the block (R380). -/
  | reset
deriving DecidableEq, Repr

/-- The contents of one byte buffer: (index, byte) pairs, indices strictly rising. An index that is not listed
has not been written since reset (R45, U1; log 7). -/
abbrev Memory := List Host.Cell

/-- The state. The spec's own state is named after the rules of 10_state.md. The last four fields are the
model's (log 1, 4, 7, 9). -/
structure State where
  /-- STATUS.DONE (R33). -/
  done : Bool
  /-- STATUS.ERR_BUSY (R33). -/
  errBusy : Bool
  /-- RESULT (R34). -/
  result : Result
  /-- CTRL.IRQ_EN (R35). -/
  irqEn : Bool
  /-- ACK_TIMEOUT (R36). -/
  ackTimeout : Ticks
  /-- RETRY_DELAY (R37). -/
  retryDelay : Ticks
  /-- MAX_ATTEMPTS (R38). -/
  maxAttempts : Byte
  /-- POLL_TIMEOUT (R39). -/
  pollTimeout : Ticks
  /-- CRC_ACC (R42). -/
  crcAcc : Crc
  /-- DL_LEN (R43). -/
  dlLen : Len
  /-- RESP_LEN (R43). -/
  respLen : Len
  /-- FRAME_LEN (R43). -/
  frameLen : Len
  /-- TXBUF (R45). -/
  txbuf : Memory
  /-- TXFRAME (R45). -/
  txframe : Memory
  /-- RXWIN (R45). -/
  rxwin : Memory
  /-- DLSLOT (R45). -/
  dlslot : Memory
  /-- RESPSLOT (R45). -/
  respslot : Memory
  /-- `st.stg` (R40, R45). -/
  stg : Memory
  /-- `st.phase` (R41). -/
  phase : Phase
  /-- `st.op` (R40). -/
  op : Op
  /-- `st.code` (R40). -/
  code : Byte
  /-- `st.len` (R40). -/
  len : Byte
  /-- `st.attempt` (R40). -/
  attempt : Byte
  /-- `st.pollsLeft` (R40). -/
  pollsLeft : Byte
  /-- `st.polls` (R40). -/
  polls : Byte
  /-- `st.timer` (R40, R356). -/
  timer : Ticks
  /-- `st.idx` (R40). -/
  idx : Len
  /-- `st.need` (R40). -/
  need : Len
  /-- `st.taken` (R40). -/
  taken : Len
  /-- `st.rx` (R40). -/
  rx : RxOutcome
  /-- The wake output: true is 1, high, idle (R47). -/
  wake : Bool
  /-- The answer of the last completed bus access, none before the first (R50). -/
  reply : Option BusReply
  /-- The channel's RX buffer, oldest byte first (R51). It belongs to the channel. -/
  chanRx : List Byte
  /-- The bytes that the channel has accepted and not yet sent, oldest first (R46). -/
  chanTx : List Byte
  /-- The bytes that have left the channel's transmitter, oldest first (R84). -/
  wire : List Byte
  /-- The events to come, oldest first (R8; log 1). -/
  inputs : List Event
  /-- The open parameters, taken as an argument (R10; log 4). -/
  params : Params
  /-- How many free bytes R89 has drawn (log 9). -/
  draws : Nat
  /-- How many reset events there were (log 7). -/
  epoch : Nat
deriving DecidableEq, Repr

/-- Why a step could stop with a fault. It has no constructor: "No error stops the block or needs a reset to
clear" (R340; log 22). Nothing raises it, so it is safe. -/
inductive Fault where
deriving DecidableEq, Repr

/-- Why a step could refuse. -/
inductive Refusal where
  /-- Raised by an arm of `exec` that has no meaning yet. No arm raises it in this model, so it is safe. -/
  | notModelled (mnemonic : String)
deriving DecidableEq, Repr

/-- The state after reset (R381). Registers have the values of the table of R381. The buffers are unspecified
(nothing is listed, log 7), the `st.*` fields other than the phase hold the values of log 8, the channel is
empty (log 10) and no event is scheduled (log 1). -/
def State.reset : State where
  done := false
  errBusy := false
  result := { res := .none, cls := false, rcode := 0#8, count := 0#8, opc := 0#8 }
  irqEn := false
  ackTimeout := Config.defaultAckTimeout
  retryDelay := Config.defaultRetryDelay
  maxAttempts := Config.defaultMaxAttempts
  pollTimeout := Config.defaultPollTimeout
  crcAcc := Config.crcInit
  dlLen := 0#7
  respLen := 0#7
  frameLen := 0#7
  txbuf := []
  txframe := []
  rxwin := []
  dlslot := []
  respslot := []
  stg := []
  phase := .idle
  op := .build
  code := 0#8
  len := 0#8
  attempt := 0#8
  pollsLeft := 0#8
  polls := 0#8
  timer := 0#24
  idx := 0#7
  need := 0#7
  taken := 0#7
  rx := .truncated
  wake := true
  reply := none
  chanRx := []
  chanTx := []
  wire := []
  inputs := []
  params := Config.params
  draws := 0
  epoch := 0

end Sys2Proof.Machine
end

