-- ==== Sys2Proof/Machine/Ops.lean ====
section
/-! DEFINITION. The named operations over the buffers, the registers and the ports: every meaning is written with
them. The completion step (R346) is the block's counterpart of taking an exception. -/

namespace Sys2Proof.Machine

/-! ### One byte buffer -/

/-- The byte listed at index `k`, none if nothing has written it since reset. -/
def Memory.read : Memory → Nat → Option Byte
  | [], _ => none
  | (a, b) :: rest, k => if a = k then some b else Memory.read rest k

/-- List the byte `b` at index `k`, replacing what was there. -/
def Memory.insert : Memory → Nat → Byte → Memory
  | [], k, b => [(k, b)]
  | (a, c) :: rest, k, b =>
    if k < a then (k, b) :: (a, c) :: rest
    else if k = a then (k, b) :: rest
    else (a, c) :: Memory.insert rest k b

/-- Write one byte. A buffer has 64 entries (R45): an index past them is no entry and nothing is written. -/
def Memory.write (m : Memory) (k : Nat) (b : Byte) : Memory :=
  if k < Config.frameMax then m.insert k b else m

/-- Write bytes at consecutive indices from `k`. -/
def Memory.writeAll : Memory → Nat → List Byte → Memory
  | m, _, [] => m
  | m, k, b :: rest => Memory.writeAll (m.write k b) (k + 1) rest

/-- The indices rise strictly. -/
def Memory.ascending : Memory → Bool
  | [] => true
  | [_] => true
  | (a, _) :: (c, x) :: rest => decide (a < c) && Memory.ascending ((c, x) :: rest)

/-- The one canonical form: indices strictly rising, and all of them entries of the buffer. An unlisted entry
reads as no value, so no listed entry equals it (log 7). -/
def Memory.wf (m : Memory) : Bool :=
  m.ascending && m.all (fun c => decide (c.1 < Config.frameMax))

/-! ### The buffers of a state -/

/-- The contents of a buffer (R45). -/
def State.buffer (s : State) : Buffer → Memory
  | .txbuf => s.txbuf
  | .txframe => s.txframe
  | .rxwin => s.rxwin
  | .dlslot => s.dlslot
  | .respslot => s.respslot
  | .stg => s.stg

/-- The byte of entry `i` of a buffer: a free byte if nothing has written it since reset (R45, U1; log 7). -/
def State.byteAt (s : State) (b : Buffer) (i : Nat) : Byte :=
  ((s.buffer b).read i).getD (Config.unwrittenByte s.epoch b i)

/-- The bytes of entries `lo .. lo + n - 1` of a buffer. -/
def State.bytes (s : State) (b : Buffer) (lo n : Nat) : List Byte :=
  (List.range n).map (fun i => s.byteAt b (lo + i))

/-- Write one TXBUF entry (R45, R87). -/
def State.putTxbuf (s : State) (i : Nat) (b : Byte) : State :=
  { s with txbuf := s.txbuf.write i b }

/-- Write a built frame into TXFRAME from entry 0 and its length into FRAME_LEN. Entries past it are unchanged
(R185). -/
def State.putFrame (s : State) (f : List Byte) : State :=
  { s with txframe := s.txframe.writeAll 0 f, frameLen := BitVec.ofNat 7 f.length }

/-- Store a frame in the downlink slot: the bytes from entry 0 and the length marker (R293). -/
def State.putDownlink (s : State) (f : List Byte) : State :=
  { s with dlslot := s.dlslot.writeAll 0 f, dlLen := BitVec.ofNat 7 f.length }

/-- Store a frame in the response slot (R293). -/
def State.putResponse (s : State) (f : List Byte) : State :=
  { s with respslot := s.respslot.writeAll 0 f, respLen := BitVec.ofNat 7 f.length }

/-- Write bytes into RXWIN from entry 0. Entries past them are unchanged (R300). -/
def State.putWindow (s : State) (f : List Byte) : State :=
  { s with rxwin := s.rxwin.writeAll 0 f }

/-! ### Completion and its acknowledgement -/

/-- The completion step with the byte that RESULT.OPC gets: one atomic write of RESULT, phase IDLE and DONE
(R346, R350). -/
def State.finish (s : State) (opc : Byte) (res : Res) (rcode count : Byte) (cls : Bool) : State :=
  { s with
    result := { res := res, cls := cls, rcode := rcode, count := count, opc := opc }
    phase := .idle
    done := true }

/-- `Complete(res, rcode, count, class)` of the running operation (R346). -/
def State.complete (s : State) (res : Res) (rcode count : Byte) (cls : Bool) : State :=
  s.finish s.op.byte res rcode count cls

/-- The host ends its handling of a completion: a written 1 clears DONE or ERR_BUSY, a written 0 leaves it
(R33, R361). -/
def State.clearFlags (s : State) (clearDone clearErrBusy : Bool) : State :=
  { s with done := s.done && !clearDone, errBusy := s.errBusy && !clearErrBusy }

/-! ### Starting an operation -/

/-- BUSY: an operation is in progress exactly when the phase is not IDLE (R33, R41). -/
def State.busy (s : State) : Bool := decide (s.phase ≠ .idle)

/-- A write refused while BUSY = 1: no effect except ERR_BUSY (R88, R351). -/
def State.refuse (s : State) : State := { s with errBusy := true }

/-- An accepted CMD write clears DONE and copies the fields (R112). -/
def State.accept (s : State) (op : Op) (code : Byte) (len : Nat) : State :=
  { s with done := false, op := op, code := code, len := BitVec.ofNat 8 len }

/-- A CMD write of a legal word: refused while BUSY, else accepted and dispatched to `run`, which performs the
operation up to its first waiting point (R15, R112). -/
def State.issue (s : State) (op : Op) (code : Byte) (len : Nat) (run : State → State) : State :=
  if s.busy then s.refuse else run (s.accept op code len)

/-- A CMD write of an illegal word: refused while BUSY, else it completes at once with ILLEGAL_OP and the
written OP (R112, R114, R350). -/
def State.illegal (s : State) (opc : Byte) : State :=
  if s.busy then s.refuse else s.finish opc .illegalOp 0#8 0#8 false

/-! ### Ports and phases -/

/-- A completed bus access answers (R50). -/
def State.answer (s : State) (r : BusReply) : State := { s with reply := some r }

/-- `SetWake(level)` (R14, R47). -/
def State.setWake (s : State) (level : Bool) : State := { s with wake := level }

/-- Enter a phase (R41). -/
def State.enter (s : State) (p : Phase) : State := { s with phase := p }

/-- Enter a waiting phase with `n` ticks to count (R237, R356). -/
def State.wait (s : State) (p : Phase) (n : Ticks) : State := { s with phase := p, timer := n }

/-- Record the outcome of a receive, `st.rx` (R40). -/
def State.setRx (s : State) (o : RxOutcome) : State := { s with rx := o }

/-- A receive begins with nothing taken, in the header phase (R234). -/
def State.clearStage (s : State) : State := { s with taken := 0#7, phase := .rxHdr }

/-- Set `st.attempt` (R260). -/
def State.setAttempt (s : State) (n : Byte) : State := { s with attempt := n }

/-- Set the budget of WAIT_DL with no poll counted yet (R310). -/
def State.setBudget (s : State) (n : Byte) : State := { s with pollsLeft := n, polls := 0#8 }

/-- `st.pollsLeft <- st.pollsLeft - 1` (R310). -/
def State.spendBudget (s : State) : State := { s with pollsLeft := s.pollsLeft - 1#8 }

/-- `st.polls <- min(st.polls + 1, 255)` (R310). -/
def State.countPoll (s : State) : State :=
  { s with polls := if s.polls = 255#8 then 255#8 else s.polls + 1#8 }

/-- `st.timer <- st.timer - 1` (R237). -/
def State.tickDown (s : State) : State := { s with timer := s.timer - 1#24 }

/-- Enter a phase of the transmit with the byte index at 0 (R220). -/
def State.startBytes (s : State) (p : Phase) : State := { s with phase := p, idx := 0#7 }

/-- Write CRC_ACC (R42). -/
def State.setCrc (s : State) (c : Crc) : State := { s with crcAcc := c }

/-- Move the byte `b` from the channel, which keeps `rest`, to `st.stg[st.taken]` (R230; log 12). -/
def State.stageByte (s : State) (b : Byte) (rest : List Byte) : State :=
  { s with
    chanRx := rest
    stg := s.stg.write s.taken.toNat b
    taken := s.taken + 1#7
    need := s.need - 1#7 }

/-- `RxTake` into the staging buffer: the oldest byte of the channel goes to `st.stg[st.taken]`. It is enabled
only while the channel holds a byte (R14, R230; log 12). -/
def State.takeByte (s : State) : State :=
  match s.chanRx with
  | [] => s
  | b :: rest => s.stageByte b rest

/-- Up to `n` takes, as many as the channel has bytes for (R231). -/
def State.takeBytes : Nat → State → State
  | 0, s => s
  | n + 1, s => State.takeBytes n s.takeByte

/-- `TxPut(b)` completes: the channel has accepted the byte (R14, R222). -/
def State.putByte (s : State) (b : Byte) : State :=
  { s with chanTx := s.chanTx ++ [b], idx := s.idx + 1#7 }

/-- The next counted tick of a wait. `done` runs on the tick that makes the timer 0 (R237). -/
def State.countDown (s : State) (done : State → State) : State :=
  if s.tickDown.timer = 0#24 then done s.tickDown else s.tickDown

/-- The reset event: the block's state gets its reset values, and the channel, the time base and the schedule
are not touched (R380, R384, R390; log 18). -/
def State.resetBlock (s : State) : State :=
  { State.reset with
    chanRx := s.chanRx
    chanTx := s.chanTx
    wire := s.wire
    inputs := s.inputs
    params := s.params
    draws := s.draws
    epoch := s.epoch + 1 }

end Sys2Proof.Machine
end

