-- ==== Sys2Proof/Machine/Flags.lean ====
section
/-! DEFINITION. The flags and the words that show them: STATUS, RESULT, CONFIG, `irq` and the port outputs. -/

namespace Sys2Proof.Machine

/-- The numbers of RESULT.RES (R341). -/
def Res.code : Res → BitVec 4
  | .none => 0#4
  | .ok => 1#4
  | .invalidArg => 2#4
  | .noAck => 3#4
  | .empty => 4#4
  | .truncated => 5#4
  | .crcMismatch => 6#4
  | .badLength => 7#4
  | .waitExhausted => 8#4
  | .illegalOp => 9#4

/-- The result code of a receive that ended without a frame, as POLL reports it (R295). -/
def RxOutcome.res : RxOutcome → Res
  | .frame => .ok
  | .truncated => .truncated
  | .crcMismatch => .crcMismatch
  | .badLength => .badLength

/-- The word RESULT (R34). -/
def Result.word (r : Result) : Word :=
  r.opc ++ r.count ++ r.rcode ++ 0#3 ++ BitVec.ofBool r.cls ++ r.res.code

/-- `rx_avail`: the channel's RX buffer holds a byte (R46). -/
def State.rxAvail (s : State) : Bool := !s.chanRx.isEmpty

/-- `tx_idle`: no accepted byte is still in the transmitter (R46). -/
def State.txIdle (s : State) : Bool := s.chanTx.isEmpty

/-- The word STATUS (R33). -/
def State.statusWord (s : State) : Word :=
  0#26 ++ BitVec.ofBool s.txIdle ++ BitVec.ofBool s.rxAvail ++ BitVec.ofBool s.wake
    ++ BitVec.ofBool s.errBusy ++ BitVec.ofBool s.done ++ BitVec.ofBool s.busy

/-- The word CONFIG (R44). -/
def State.configWord (s : State) : Word :=
  0#7 ++ BitVec.ofBool (decide (s.params.crcImpl = .byteParallel)) ++ Config.settleTicks.extractLsb' 0 8
    ++ BitVec.ofNat 8 Config.payloadMax ++ BitVec.ofNat 8 Config.frameMax

/-- The word CONFIG2 (R44). -/
def config2Word : Word := 0#8 ++ Config.pollSleepTicks

/-- The interrupt output (R49, R354). -/
def State.irq (s : State) : Bool := s.done && s.irqEn

/-- `rx_ready`: 1 only in RX_HDR and RX_BODY (R46). -/
def State.rxReady (s : State) : Bool := decide (s.phase = .rxHdr ∨ s.phase = .rxBody)

/-- `rx_valid`, which the channel keeps equal to `rx_avail` (R46). -/
def State.rxValid (s : State) : Bool := s.rxAvail

/-- `rx_data`: the oldest received byte, none while `rx_valid` is 0 (R46). -/
def State.rxData (s : State) : Option Byte := s.chanRx.head?

/-- `tx_valid`: 1 only in TX_BYTES (R46). -/
def State.txValid (s : State) : Bool := decide (s.phase = .txBytes)

/-- `tx_data`: the byte presented in TX_BYTES (R222). DESIGN CHOICE: what it carries while `tx_valid` is 0 is left
open, and the model gives `TXFRAME[st.idx]` in every phase. Nothing reads it there (log 23). -/
def State.txData (s : State) : Byte := s.byteAt .txframe s.idx.toNat

end Sys2Proof.Machine
end

