-- ==== Sys2Proof/Machine/Operands.lean ====
section
/-! DEFINITION. The operand forms: the payload in TXBUF, the receive window of the running operation, the staged
frame, and the registers as the host bus reads and writes them. -/

namespace Sys2Proof.Machine

/-! ### Operands of operations -/

/-- The payload operand TXBUF[0..LEN-1] (R113, R185). -/
def State.payload (s : State) : List Byte := s.bytes .txbuf 0 s.len.toNat

/-- The window of a read stage: ACK_TIMEOUT in SEND_ACK (R262), POLL_TIMEOUT in POLL and WAIT_DL (R292). The
other operations do not receive. -/
def State.window (s : State) : Ticks :=
  match s.op with
  | .sendAck => s.ackTimeout
  | .poll | .waitDl => s.pollTimeout
  | .build | .send | .copyDl | .copyResp => s.pollTimeout

/-- The header bytes of the current receive (R191). -/
def State.header (s : State) : List Byte := s.bytes .stg 0 3

/-- The declared length, offset 2 (R191). -/
def State.declared (s : State) : Byte := s.byteAt .stg 2

/-- The body bytes of the current receive, as many as declared (R191). -/
def State.body (s : State) : List Byte := s.bytes .stg 3 s.declared.toNat

/-- The type byte, offset 3 (R123, R290). -/
def State.typeByte (s : State) : Byte := s.byteAt .stg 3

/-- The raw bytes of the current receive, offsets 0 .. `st.taken` - 1 (R290). -/
def State.staged (s : State) : List Byte := s.bytes .stg 0 s.taken.toNat

/-- A count of bytes as RESULT.COUNT holds it (R34). -/
def countOf (n : Len) : Byte := n.zeroExtend 8

/-! ### Host reads -/

/-- A buffer entry as the bus reads it: the byte in bits [7:0] and zeros above (R45). -/
def byteWord (b : Byte) : Word := b.zeroExtend 32

/-- An operation that writes TXFRAME is running (R89). -/
def State.fillsFrame (s : State) : Bool :=
  s.busy && match s.op with
    | .build | .send | .sendAck => true
    | .poll | .copyDl | .copyResp | .waitDl => false

/-- An operation that writes RXWIN is running (R89). -/
def State.fillsWindow (s : State) : Bool :=
  s.busy && match s.op with
    | .copyDl | .copyResp => true
    | .build | .send | .sendAck | .poll | .waitDl => false

/-- The value of a register or buffer entry (R32-R39, R42-R45, R87), R89's exceptions aside. -/
def State.readValue (s : State) : Reg → Word
  | .cmd => 0#32
  | .status => s.statusWord
  | .result => s.result.word
  | .ctrl => (BitVec.ofBool s.irqEn).zeroExtend 32
  | .ackTimeout => s.ackTimeout.zeroExtend 32
  | .retryDelay => s.retryDelay.zeroExtend 32
  | .maxAttempts => s.maxAttempts.zeroExtend 32
  | .pollTimeout => s.pollTimeout.zeroExtend 32
  | .crcAcc => s.crcAcc.zeroExtend 32
  | .crcData => 0#32
  | .dlLen => s.dlLen.zeroExtend 32
  | .respLen => s.respLen.zeroExtend 32
  | .frameLen => s.frameLen.zeroExtend 32
  | .config => s.configWord
  | .config2 => config2Word
  | .txbuf i => byteWord (s.byteAt .txbuf i.toNat)
  | .txframe i => byteWord (s.byteAt .txframe i.toNat)
  | .rxwin i => byteWord (s.byteAt .rxwin i.toNat)

/-- Whether a read answers with a free byte: TXFRAME or RXWIN while the operation that fills it runs (R89). -/
def State.readsFree (s : State) : Reg → Bool
  | .txframe _ => s.fillsFrame
  | .rxwin _ => s.fillsWindow
  | .cmd | .status | .result | .ctrl | .ackTimeout | .retryDelay | .maxAttempts | .pollTimeout
  | .crcAcc | .crcData | .dlLen | .respLen | .frameLen | .config | .config2 | .txbuf _ => false

/-- A host read of a mapped register. Reads have no side effect on the block (R90). A read of R89's kind draws
a free byte, and the counter of such draws advances (log 9). -/
def State.readReg (s : State) (r : Reg) : State :=
  if s.readsFree r then
    { s with draws := s.draws + 1 }.answer ⟨false, some (byteWord (Config.busyByte s.draws))⟩
  else s.answer ⟨false, some (s.readValue r)⟩

/-- The answer of a misaligned or unmapped access: `bus_err = 1`, read data 0, no effect (R81, R83, R352). -/
def State.busError (s : State) : State := s.answer ⟨true, some 0#32⟩

/-- A host read of any byte address (R80, R81, R83). -/
def State.busRead (s : State) (a : Offset) : State :=
  if aligned a then
    match registerAt a with
    | none => s.busError
    | some r => s.readReg r
  else s.busError

/-! ### Host writes that start no operation -/

/-- A write refused while BUSY = 1, else performed (R88). -/
def State.guarded (s : State) (write : State → State) : State :=
  if s.busy then s.refuse else write s

/-- The effect of a write to a register that starts no operation (R33, R35-R39, R45, R83, R87, R88). Writes to
read-only registers have none. CMD, CRC_ACC and CRC_DATA are written by operations only. -/
def State.writeReg (s : State) (r : Reg) (w : Word) : State :=
  match r with
  | .status => s.clearFlags (w.getLsbD 1) (w.getLsbD 2)
  | .ctrl => { s with irqEn := w.getLsbD 0 }
  | .ackTimeout => s.guarded fun s => { s with ackTimeout := w.extractLsb' 0 24 }
  | .retryDelay => s.guarded fun s => { s with retryDelay := w.extractLsb' 0 24 }
  | .maxAttempts => s.guarded fun s => { s with maxAttempts := w.extractLsb' 0 8 }
  | .pollTimeout => s.guarded fun s => { s with pollTimeout := w.extractLsb' 0 24 }
  | .txbuf i => s.guarded fun s => s.putTxbuf i.toNat (w.extractLsb' 0 8)
  | .cmd | .crcAcc | .crcData => s
  | .result | .dlLen | .respLen | .frameLen | .config | .config2 | .txframe _ | .rxwin _ => s

/-- The answer of a write that completes without a bus error. -/
def State.written (s : State) : State := s.answer ⟨false, none⟩

/-- What a bus write does that the decoder refuses, by the name of the refusal (R81, R83, R87, R114). -/
def State.writeOther (s : State) (b : BusWrite) : DecodeError → State
  | .misaligned | .unmapped => s.busError
  | .reservedBits | .illegalOp => (s.illegal (opField b.data)).written
  | .registerWrite r => (s.writeReg r b.data).written

end Sys2Proof.Machine
end

