-- ==== Sys2Proof/Machine/Crc.lean ====
section
/-! DEFINITION. The CRC-16/XMODEM engine: its normative form (R150, R151), the derived forms (R152-R154), and the
two operations of the host CRC unit (R160, R161). -/

namespace Sys2Proof.Machine

/-! ### The function -/

/-- One message bit: the feedback tests the top bit of the accumulator before the shift (R151, C2). -/
def crcBit (acc : Crc) (m : Bool) : Crc :=
  if acc.getLsbD 15 ^^ m then (acc <<< 1) ^^^ Config.crcPoly else acc <<< 1

/-- The bits of a byte, most significant first (R86, R151). -/
def bitsMsbFirst (b : Byte) : List Bool := [7, 6, 5, 4, 3, 2, 1, 0].map b.getLsbD

/-- The bitwise update, the normative form (R151). -/
def crcByte (acc : Crc) (b : Byte) : Crc := (bitsMsbFirst b).foldl crcBit acc

/-- `crc16(s)`: the fold of the update from CRC_INIT in sequence order (R150). -/
def crc16 (s : List Byte) : Crc := s.foldl crcByte Config.crcInit

/-! ### The derived forms -/

/-- One shift of the byte-wise form (R152). -/
def crcShift (acc : Crc) : Crc :=
  if acc.getLsbD 15 then (acc <<< 1) ^^^ Config.crcPoly else acc <<< 1

/-- The byte-wise form (R152). -/
def crcByteWise (acc : Crc) (b : Byte) : Crc :=
  (List.range 8).foldl (fun a _ => crcShift a) (acc ^^^ (b.zeroExtend 16 <<< 8))

/-- The byte-parallel form: the sixteen equations, bit 0 first (R153). -/
def crcByteParallel (c : Crc) (d : Byte) : Crc :=
  let e := hiByte c ^^^ d
  let x (i : Nat) : Bool := e.getLsbD i
  let k (i : Nat) : Bool := c.getLsbD i
  let n : List Bool :=
    [x 0 ^^ x 4, x 1 ^^ x 5, x 2 ^^ x 6, x 3 ^^ x 7,
     x 4, x 0 ^^ x 4 ^^ x 5, x 1 ^^ x 5 ^^ x 6, x 2 ^^ x 6 ^^ x 7,
     k 0 ^^ x 3 ^^ x 7, k 1 ^^ x 4, k 2 ^^ x 5, k 3 ^^ x 6,
     k 4 ^^ x 0 ^^ x 4 ^^ x 7, k 5 ^^ x 1 ^^ x 5, k 6 ^^ x 2 ^^ x 6, k 7 ^^ x 3 ^^ x 7]
  (BitVec.ofBoolListLE n).setWidth 16

/-- The table of the table form, generated from the normative form (R154). -/
def crcTable (x : Byte) : Crc := crcByte 0#16 x

/-- The table form (R154). -/
def crcByteTable (acc : Crc) (b : Byte) : Crc := (acc <<< 8) ^^^ crcTable (hiByte acc ^^^ b)

/-- The datapath that CRC_IMPL picks. It has no architectural effect (R157): the model computes with the
normative form. -/
def crcDatapath : CrcImpl → Crc → Byte → Crc
  | .bitSerial => crcByte
  | .byteParallel => crcByteParallel

/-! ### The operations of the host CRC unit -/

/-- CRC_SEED (R160): `CRC_ACC <- v[15:0]`, accepted at any time (R88). -/
def execCrcSeed (data : Word) (s : State) : Host.Outcome State Fault Refusal :=
  .next (s.setCrc (data.extractLsb' 0 16))

/-- CRC_BYTE (R161): `CRC_ACC <- crcByte(CRC_ACC, v[7:0])`, accepted at any time (R88). -/
def execCrcByte (data : Word) (s : State) : Host.Outcome State Fault Refusal :=
  .next (s.setCrc (crcByte s.crcAcc (data.extractLsb' 0 8)))

end Sys2Proof.Machine
end

