-- ==== Sys2Proof/Machine/Codec.lean ====
section
/-! DEFINITION. The frame codec: the encoder and its BUILD step (R180-R185), the operation BUILD (R186), and the
decoder (R190-R195). -/

namespace Sys2Proof.Machine

/-! ### Encoder -/

/-- The classes of outbound command bytes (R122, R180). -/
inductive CommandClass where
  | sendVld | inquire | setTest | invalid
deriving DecidableEq, Repr

/-- `class(code)` (R180). The cases are disjoint when the parameters are well formed (R10). -/
def classify (c : Codes) (code : Byte) : CommandClass :=
  if code = c.command .sendVld then .sendVld
  else if code = c.command .inqVersion ∨ code = c.command .inqMac ∨ code = c.command .inqNettime
      ∨ code = c.command .inqQuality ∨ code = c.command .inqStatus then .inquire
  else if code = c.command .setTest then .setTest
  else .invalid

/-- `legal(cls, n)` for a payload length `n` (R181). -/
def payloadLegal : CommandClass → Nat → Bool
  | .sendVld, n => decide (1 ≤ n ∧ n ≤ Config.payloadMax)
  | .inquire, n => decide (n = 0)
  | .setTest, n => decide (n = 1)
  | .invalid, _ => false

/-- `declLen(cls, n)` of a legal pair (R182). No rule gives INVALID a declared length and no frame is built
for it. -/
def declaredLength : CommandClass → Nat → Nat
  | .sendVld, n => 0x03 + n
  | .inquire, _ => 0x03
  | .setTest, _ => 0x04
  | .invalid, n => 0x03 + n

/-- The CRC-covered bytes of an outbound frame, offsets 2 .. 3+n (R183). -/
def frameBody (c : Codes) (code : Byte) (payload : List Byte) : List Byte :=
  BitVec.ofNat 8 (declaredLength (classify c code) payload.length) :: code :: payload

/-- A big-endian CRC trailer (R85). -/
def crcTrailer (s : List Byte) : List Byte := [hiByte (crc16 s), loByte (crc16 s)]

/-- `encodeFrame(code, p)`: markers, body, CRC (R120, R183). -/
def encodeFrame (c : Codes) (code : Byte) (payload : List Byte) : List Byte :=
  [Config.marker1, Config.marker2] ++ frameBody c code payload ++ crcTrailer (frameBody c code payload)

/-- Whether the BUILD step is legal for the fields of the running operation (R181, R185). -/
def State.buildLegal (s : State) : Bool := payloadLegal (classify s.params.codes s.code) s.len.toNat

/-- The frame that the BUILD step writes (R185). -/
def State.builtFrame (s : State) : List Byte := encodeFrame s.params.codes s.code s.payload

/-- The BUILD step of BUILD, SEND and SEND_ACK (R185): INVALID_ARG completes the operation at once and leaves
TXFRAME and FRAME_LEN, else the frame is built and the operation goes on with `next`. -/
def State.buildThen (s : State) (next : State → State) : State :=
  if s.buildLegal then next ((s.enter .build).putFrame s.builtFrame)
  else s.complete .invalidArg 0#8 0#8 false

/-- BUILD (R186): encode a frame without sending it. -/
def execBuild (code : Byte) (len : Nat) (s : State) : Host.Outcome State Fault Refusal :=
  .next (s.issue .build code len fun s =>
    s.buildThen fun s => s.complete .ok 0#8 (countOf s.frameLen) false)

/-! ### Decoder -/

/-- A frame that the decoder has accepted, with its raw bytes (R190, R194). -/
structure Frame where
  marker1 : Byte
  marker2 : Byte
  length : Byte
  type : Byte
  payload : List Byte
  crc : Crc
  raw : List Byte
deriving DecidableEq, Repr

/-- The CRC-covered bytes of a received frame: length byte, type byte, payload (R193). -/
def coveredBytes (hdr body : List Byte) : List Byte :=
  hdr.getD 2 0#8 :: body.take ((hdr.getD 2 0#8).toNat - 2)

/-- The received CRC, big-endian in the last two body bytes (R85, R193). -/
def receivedCrc (hdr body : List Byte) : Crc :=
  body.getD ((hdr.getD 2 0#8).toNat - 2) 0#8 ++ body.getD ((hdr.getD 2 0#8).toNat - 1) 0#8

/-- `parse(hdr, body)`: the frame, none for CRC_MISMATCH (R190, R193, R194). The markers are not checked
(R195). -/
def parse (hdr body : List Byte) : Option Frame :=
  if crc16 (coveredBytes hdr body) = receivedCrc hdr body then
    some
      { marker1 := hdr.getD 0 0#8
        marker2 := hdr.getD 1 0#8
        length := hdr.getD 2 0#8
        type := body.getD 0 0#8
        payload := (body.take ((hdr.getD 2 0#8).toNat - 2)).drop 1
        crc := receivedCrc hdr body
        raw := hdr ++ body }
  else none

/-- The declared-length bound: 3 .. 61 (R192). -/
def lengthLegal (dl : Byte) : Bool :=
  decide (Config.dlenMin ≤ dl.toNat ∧ dl.toNat ≤ Config.dlenMax)

end Sys2Proof.Machine
end

