-- ==== Sys2Proof/Machine/Link.lean ====
section
/-! DEFINITION. The serial link sequencer's own moves: the wake-line bracket (R220-R225) and the start of a read
stage (R230, R236). What an operation does when a bracket or a receive ends is in Retry.lean, Inbox.lean and
Sequencer.lean. -/

namespace Sys2Proof.Machine

/-- The first step of `transmit`: the falling edge and the first settle delay (R220, R221). -/
def State.beginTransmit (s : State) : State := (s.setWake false).wait .txSettle1 Config.settleTicks

/-- After the first settle delay: the byte phase from offset 0, and the flush phase at once if there is no byte
to send (R220, R222). -/
def State.beginBytes (s : State) : State :=
  if s.frameLen = 0#7 then s.startBytes .txFlush else s.startBytes .txBytes

/-- The channel is ready: in TX_BYTES the presented byte transfers, and after the last one the flush phase begins
(R46, R222, R223). -/
def State.acceptByte (s : State) : State :=
  if s.txValid && decide (s.idx < s.frameLen) then
    if (s.putByte s.txData).idx < s.frameLen then s.putByte s.txData
    else (s.putByte s.txData).enter .txFlush
  else s

/-- `TxDrained`: in TX_FLUSH with `tx_idle = 1` the second settle delay begins (R223, R224). -/
def State.drained (s : State) : State :=
  if s.txIdle then s.wait .txSettle2 Config.settleTicks else s

/-- Start a read stage of `n` bytes with a nonzero window of `t` ticks (R230). -/
def State.startStage (s : State) (p : Phase) (n : Len) (t : Ticks) : State :=
  { s.wait p t with need := n }

/-- The oldest accepted byte leaves the transmitter (R46). -/
def State.sendOldest (s : State) : State :=
  match s.chanTx with
  | [] => s
  | b :: rest => { s with chanTx := rest, wire := s.wire ++ [b] }

end Sys2Proof.Machine
end

