-- ==== Sys2Proof/Machine/Retry.lean ====
section
/-! DEFINITION. The retry coordinator: SEND_ACK (R260-R268) and SEND (R270). -/

namespace Sys2Proof.Machine

/-- `st.attempt <- st.attempt + 1` (R260). -/
def State.nextAttempt (s : State) : State := s.setAttempt (s.attempt + 1#8)

/-- The next attempt starts with its transmit (R260, R262). -/
def State.retry (s : State) : State := s.nextAttempt.beginTransmit

/-- An attempt has failed: wait RETRY_DELAY ticks and retry if attempts remain, with no wait for a delay of 0
(R237, R263), else complete with NO_ACK (R265). -/
def State.attemptFailed (s : State) : State :=
  if s.attempt < s.maxAttempts then
    if s.retryDelay = 0#24 then (s.enter .retryWait).retry else s.wait .retryWait s.retryDelay
  else s.nextAttempt.complete .noAck 0#8 s.maxAttempts false

/-- The success test of an attempt that received a frame: its type byte is RESP_ACK (R264). The frame is stored
nowhere (R267). -/
def State.testAck (s : State) : State :=
  if s.typeByte = s.params.codes.response .ack then
    s.complete .ok (s.params.codes.response .ack) s.attempt false
  else s.attemptFailed

/-- The first attempt, if MAX_ATTEMPTS allows one (R260, R266). -/
def State.firstAttempt (s : State) : State :=
  if s.maxAttempts = 0#8 then (s.setAttempt 1#8).complete .noAck 0#8 s.maxAttempts false
  else (s.setAttempt 1#8).beginTransmit

/-- SEND_ACK (R260): the BUILD step once, then the attempts. -/
def execSendAck (code : Byte) (len : Nat) (s : State) : Host.Outcome State Fault Refusal :=
  .next (s.issue .sendAck code len fun s => s.buildThen State.firstAttempt)

/-- SEND (R270): the BUILD step, then one wake-line bracket. -/
def execSend (code : Byte) (len : Nat) (s : State) : Host.Outcome State Fault Refusal :=
  .next (s.issue .send code len fun s => s.buildThen State.beginTransmit)

end Sys2Proof.Machine
end

