-- ==== Sys2Proof/Machine/Inbox.lean ====
section
/-! DEFINITION. The inbox demultiplexer: the poll procedure (R290-R294) and the operations POLL, COPY_DL, COPY_RESP
and WAIT_DL (R295-R313). The outcomes of a receive are dispatched to the running operation here. -/

namespace Sys2Proof.Machine

/-! ### Inside WAIT_DL -/

/-- An Empty or failed poll of WAIT_DL: counted, then the poll sleep (R310, R313). -/
def State.pollAgainLater (s : State) : State := s.countPoll.wait .pollSleep Config.pollSleepTicks

/-! ### The outcomes of a receive -/

/-- `receiveOne` ended without a frame: a failed attempt of SEND_ACK (R264), the result of POLL (R295), a sleep of
WAIT_DL (R313). The bytes taken are discarded (R235). The other operations do not receive (log 16). -/
def State.receiveFailed (s : State) (o : RxOutcome) : State :=
  match s.op with
  | .sendAck => (s.setRx o).attemptFailed
  | .poll => (s.setRx o).complete o.res 0#8 (countOf s.taken) false
  | .waitDl => (s.setRx o).pollAgainLater
  | .build | .send | .copyDl | .copyResp => s.setRx o

/-- `receiveOne(T)` begins: the header stage, which ends at once in a zero window (R233, R234). -/
def State.beginReceive (s : State) (t : Ticks) : State :=
  if t = 0#24 then s.clearStage.receiveFailed .truncated else s.clearStage.startStage .rxHdr 3#7 t

/-- The poll found no buffered byte (R291): EMPTY of POLL (R295, R349), a sleep of WAIT_DL (R310). -/
def State.pollEmpty (s : State) : State :=
  match s.op with
  | .poll => s.complete .empty 0#8 0#8 false
  | .waitDl => s.pollAgainLater
  | .build | .send | .sendAck | .copyDl | .copyResp => s

/-- `pollProc` begins: `rx_avail` is sampled once (R290, R291). -/
def State.beginPoll (s : State) : State :=
  if s.rxAvail then s.beginReceive s.pollTimeout else s.pollEmpty

/-- Whether the staged frame is a downlink (R123, R293). -/
def State.isDownlink (s : State) : Bool := decide (s.typeByte = s.params.codes.response .downlink)

/-- The STORE step: the staged frame goes whole into the slot of its class (R293). -/
def State.storeFrame (s : State) : State :=
  if s.isDownlink then (s.enter .store).putDownlink s.staged else (s.enter .store).putResponse s.staged

/-- `receiveOne` returned a frame: the success test of SEND_ACK (R264), the STORE step and result of POLL (R295),
the STORE step and the end or the next poll of WAIT_DL (R310, R312). -/
def State.receiveFrame (s : State) : State :=
  match s.op with
  | .sendAck => (s.setRx .frame).testAck
  | .poll => (s.setRx .frame).storeFrame.complete .ok s.typeByte (countOf s.taken) s.isDownlink
  | .waitDl =>
    if s.isDownlink then
      (s.setRx .frame).storeFrame.countPoll.complete .ok s.typeByte s.countPoll.polls true
    else (s.setRx .frame).storeFrame.countPoll.beginPoll
  | .build | .send | .copyDl | .copyResp => s.setRx .frame

/-! ### Operations -/

/-- POLL (R295): one run of the poll procedure. -/
def execPoll (code : Byte) (len : Nat) (s : State) : Host.Outcome State Fault Refusal :=
  .next (s.issue .poll code len State.beginPoll)

/-- A copy of the first `min(maxSize, n)` bytes of a slot into RXWIN (R300, R301). -/
def State.copyOut (s : State) (b : Buffer) (n : Len) : State :=
  ((s.enter .copy).putWindow (s.bytes b 0 (min s.len.toNat n.toNat))).complete .ok 0#8
    (BitVec.ofNat 8 (min s.len.toNat n.toNat)) false

/-- COPY_DL (R300). -/
def execCopyDl (code : Byte) (maxSize : Nat) (s : State) : Host.Outcome State Fault Refusal :=
  .next (s.issue .copyDl code maxSize fun s => s.copyOut .dlslot s.dlLen)

/-- COPY_RESP (R301). -/
def execCopyResp (code : Byte) (maxSize : Nat) (s : State) : Host.Outcome State Fault Refusal :=
  .next (s.issue .copyResp code maxSize fun s => s.copyOut .respslot s.respLen)

/-- The budget and the first poll of WAIT_DL, none for a zero budget (R310, R311). -/
def State.firstPoll (s : State) : State :=
  if s.len = 0#8 then (s.setBudget s.len).complete .waitExhausted 0#8 0#8 false
  else (s.setBudget s.len).beginPoll

/-- WAIT_DL (R310). -/
def execWaitDl (code : Byte) (maxPollAttempts : Nat) (s : State) : Host.Outcome State Fault Refusal :=
  .next (s.issue .waitDl code maxPollAttempts State.firstPoll)

end Sys2Proof.Machine
end

