-- ==== Sys2Proof/Machine/Sequencer.lean ====
section
/-! DEFINITION. What each event does to the core and the channel: the transitions of the running operation at its
waiting points (R15, R41). -/

namespace Sys2Proof.Machine

/-! ### Read stages -/

/-- The body stage begins with a fresh window (R234, R236). -/
def State.beginBody (s : State) : State :=
  if s.window = 0#24 then (s.enter .rxBody).receiveFailed .truncated
  else (s.enter .rxBody).startStage .rxBody (s.declared.setWidth 7) s.window

/-- The check of a complete body (R193, R234). -/
def State.checkFrame (s : State) : State :=
  match parse s.header s.body with
  | none => (s.enter .rxCheck).receiveFailed .crcMismatch
  | some _ => (s.enter .rxCheck).receiveFrame

/-- A read stage holds all its bytes: after the header the length check and the body stage, after the body the
check (R192, R234). The other phases have no read stage. -/
def State.stageComplete (s : State) : State :=
  match s.phase with
  | .rxHdr => if lengthLegal s.declared then s.beginBody else s.receiveFailed .badLength
  | .rxBody => s.checkFrame
  | .idle | .build | .txSettle1 | .txBytes | .txFlush | .txSettle2 | .rxCheck | .retryWait | .pollSleep
  | .store | .copy => s

/-- A read stage ends when it needs no further byte (R230). -/
def State.stageTest (s : State) (waiting : State → State) : State :=
  if s.need = 0#7 then s.stageComplete else waiting s

/-! ### The core's own steps -/

/-- The core's next own step, if one is enabled: one `RxTake` of a running read stage (R230), or `TxDrained`
(R223). In every other phase the core waits for another agent or is idle. -/
def State.coreStep (s : State) : State :=
  match s.phase with
  | .rxHdr | .rxBody => s.stageTest fun s => s.takeByte.stageTest id
  | .txFlush => s.drained
  | .idle | .build | .txSettle1 | .txBytes | .txSettle2 | .rxCheck | .retryWait | .pollSleep | .store | .copy => s

/-! ### Ticks -/

/-- The last step of `transmit`: the rising edge, and the operation continues in the same step (R225): SEND
completes (R270), SEND_ACK receives (R260). No other operation transmits (log 16). -/
def State.endTransmit (s : State) : State :=
  match s.op with
  | .send => (s.setWake true).complete .ok 0#8 1#8 false
  | .sendAck => (s.setWake true).beginReceive s.ackTimeout
  | .build | .poll | .copyDl | .copyResp | .waitDl => s.setWake true

/-- The end of a poll sleep of WAIT_DL: the budget falls, and the next poll starts or the operation ends
(R310). -/
def State.endSleep (s : State) : State :=
  if s.spendBudget.pollsLeft = 0#8 then s.spendBudget.complete .waitExhausted 0#8 s.polls false
  else s.spendBudget.beginPoll

/-- One tick: counted in six phases only (R238). In a read stage every enabled take comes first, and a stage that
they complete does not count the tick (R231). -/
def State.onTick (s : State) : State :=
  match s.phase with
  | .txSettle1 => s.countDown State.beginBytes
  | .txSettle2 => s.countDown State.endTransmit
  | .retryWait => s.countDown State.retry
  | .pollSleep => s.countDown State.endSleep
  | .rxHdr | .rxBody =>
    (s.takeBytes s.need.toNat).stageTest fun s => s.countDown fun s => s.receiveFailed .truncated
  | .idle | .build | .txBytes | .txFlush | .rxCheck | .store | .copy => s

/-! ### Events -/

/-- The operation that an event starts: a bus write that decodes (R2). -/
def Event.operation : Event → Option Instr
  | .write b =>
    match decode b with
    | .ok i => some i
    | .error _ => none
  | .read _ | .arrive _ | .accept | .sent | .tick | .core | .reset => none

/-- What an event that starts no operation does. A bus write that decodes is performed by `exec` (Step.lean). -/
def State.perform (s : State) : Event → State
  | .write b =>
    match decode b with
    | .ok _ => s.written
    | .error e => s.writeOther b e
  | .read a => s.busRead a
  | .arrive b => { s with chanRx := s.chanRx ++ [b] }
  | .accept => s.acceptByte
  | .sent => s.sendOldest
  | .tick => s.onTick
  | .core => s.coreStep
  | .reset => s.resetBlock

end Sys2Proof.Machine
end

