-- ==== Sys2Proof/Machine/Dispatch.lean ====
section
/-! DEFINITION. The meaning of every instruction: one arm per constructor. -/

namespace Sys2Proof.Machine

def exec (i : Instr) (s : State) : Host.Outcome State Fault Refusal :=
  match i with
  | .build code len => Sys2Proof.Machine.execBuild code len s
  | .send code len => Sys2Proof.Machine.execSend code len s
  | .sendAck code len => Sys2Proof.Machine.execSendAck code len s
  | .poll code len => Sys2Proof.Machine.execPoll code len s
  | .copyDl code maxSize => Sys2Proof.Machine.execCopyDl code maxSize s
  | .copyResp code maxSize => Sys2Proof.Machine.execCopyResp code maxSize s
  | .waitDl code maxPollAttempts => Sys2Proof.Machine.execWaitDl code maxPollAttempts s
  | .crcSeed data => Sys2Proof.Machine.execCrcSeed data s
  | .crcByte data => Sys2Proof.Machine.execCrcByte data s

end Sys2Proof.Machine
end

