-- ==== Sys2Proof/Machine/Step.lean ====
section
/-! DEFINITION. One step of the machine: the next scheduled event, or the core's own step when none is scheduled
(log 1, 2). -/

namespace Sys2Proof.Machine

/-- The schedule without its first event. -/
def State.taking (s : State) (rest : List Event) : State := { s with inputs := rest }

/-- One step: take the oldest scheduled event. A bus write that decodes is answered and runs its instruction;
every other event is performed. With no event scheduled the core takes its own step, if one is enabled. -/
def step (s : State) : Host.Outcome State Fault Refusal :=
  match s.inputs with
  | [] => .next s.coreStep
  | e :: rest =>
    match e.operation with
    | some i => exec i (s.taking rest).written
    | none => .next ((s.taking rest).perform e)

/-- The state with the bus write of a table number scheduled first, where the step takes its next instruction.
A number that is no bus write changes nothing. -/
def State.withFetchWord (s : State) (nbits w : Nat) : State :=
  match tableWrite nbits w with
  | some b => { s with inputs := .write b :: s.inputs }
  | none => s

end Sys2Proof.Machine
end

