-- ==== Sys2Proof/Safety.lean ====
section
/-! DEFINITION. The terms that claims use: the classes of phases, what a buffer holds, and the invariant of the
machine between two steps. -/

namespace Sys2Proof.Machine

/-- The phases of the wake-line bracket, in which `wake` is 0 (R220). -/
def Phase.transmitting : Phase → Bool
  | .txSettle1 | .txBytes | .txFlush | .txSettle2 => true
  | .idle | .build | .rxHdr | .rxBody | .rxCheck | .retryWait | .pollSleep | .store | .copy => false

/-- The phases of a read stage (R234). -/
def Phase.receiving : Phase → Bool
  | .rxHdr | .rxBody => true
  | .idle | .build | .txSettle1 | .txBytes | .txFlush | .txSettle2 | .rxCheck | .retryWait | .pollSleep
  | .store | .copy => false

/-- The phases that count ticks (R238). -/
def Phase.counting : Phase → Bool
  | .txSettle1 | .txSettle2 | .retryWait | .pollSleep | .rxHdr | .rxBody => true
  | .idle | .build | .txBytes | .txFlush | .rxCheck | .store | .copy => false

/-- The internal phases, which have no external interaction (R41). -/
def Phase.internal : Phase → Bool
  | .build | .rxCheck | .store | .copy => true
  | .idle | .txSettle1 | .txBytes | .txFlush | .txSettle2 | .rxHdr | .rxBody | .retryWait | .pollSleep => false

/-- The phases in which an operation can be found between two steps (R186, R260, R270, R295-R310). -/
def Phase.allows : Phase → Op → Bool
  | .idle, _ => true
  | .txSettle1, op | .txBytes, op | .txFlush, op | .txSettle2, op => decide (op = .send ∨ op = .sendAck)
  | .rxHdr, op | .rxBody, op => decide (op = .sendAck ∨ op = .poll ∨ op = .waitDl)
  | .retryWait, op => decide (op = .sendAck)
  | .pollSleep, op => decide (op = .waitDl)
  | .build, _ | .rxCheck, _ | .store, _ | .copy, _ => false

/-- Entries `0 .. n - 1` of a buffer have been written since reset. -/
def Memory.filled (m : Memory) (n : Nat) : Bool := (List.range n).all fun i => (m.read i).isSome

/-- A length marker is 0 or the length of a whole frame, 6 .. 64 (R43, R127). -/
def lengthMarker (n : Len) : Bool := decide (n.toNat = 0 ∨ (6 ≤ n.toNat ∧ n.toNat ≤ 64))

/-- Every buffer is in its canonical form. -/
def State.buffersWf (s : State) : Bool :=
  s.txbuf.wf && s.txframe.wf && s.rxwin.wf && s.dlslot.wf && s.respslot.wf && s.stg.wf

/-- The block's state between two steps. Each field names the rules it rests on. -/
structure State.Inv (s : State) : Prop where
  /-- The buffers keep their canonical form. -/
  buffers : s.buffersWf = true
  /-- A running operation is at a waiting point that is one of its own (R15, R41). -/
  phase_of_op : s.phase.allows s.op = true
  /-- `wake` is 0 exactly inside the wake-line bracket (R47, R221, R225). -/
  wake_level : s.wake = !s.phase.transmitting
  /-- A delay or window still has ticks to count (R230, R237). -/
  timer_runs : s.phase.counting = true → s.timer ≠ 0#24
  /-- The length registers hold frame lengths (R43, R127). -/
  lengths : lengthMarker s.dlLen = true ∧ lengthMarker s.respLen = true ∧ lengthMarker s.frameLen = true
  /-- No unspecified byte lies below a length register (R382). -/
  slots_written : s.dlslot.filled s.dlLen.toNat = true ∧ s.respslot.filled s.respLen.toNat = true
    ∧ s.txframe.filled s.frameLen.toNat = true
  /-- SEND and SEND_ACK have a frame to send (R185, R220). -/
  frame_ready : s.busy = true → s.op = .send ∨ s.op = .sendAck → 6 ≤ s.frameLen.toNat
  /-- In TX_BYTES a byte is still to be sent (R222). -/
  byte_ready : s.phase = .txBytes → s.idx < s.frameLen
  /-- The header stage counts the header bytes (R230, R234). -/
  header_count : s.phase = .rxHdr → s.need ≠ 0#7 ∧ s.taken.toNat + s.need.toNat = 3
  /-- The body stage counts the bytes of a legal declared length (R192, R230, R234). -/
  body_count : s.phase = .rxBody → s.need ≠ 0#7 ∧ lengthLegal s.declared = true ∧ 3 ≤ s.taken.toNat
    ∧ s.taken.toNat + s.need.toNat = 3 + s.declared.toNat
  /-- The bytes taken are staged (R234). -/
  staged_written : s.phase.receiving = true → s.stg.filled s.taken.toNat = true
  /-- An attempt of SEND_ACK is within the bound, and a retry wait has an attempt left (R260, R263). -/
  attempt_bound : s.busy = true → s.op = .sendAck → 1 ≤ s.attempt.toNat ∧ s.attempt.toNat ≤ s.maxAttempts.toNat
  retry_bound : s.phase = .retryWait → s.attempt.toNat < s.maxAttempts.toNat
  /-- WAIT_DL has budget left, and every poll is counted (R310). -/
  budget : s.busy = true → s.op = .waitDl → s.pollsLeft ≠ 0#8

/-- The registers and buffers that only the host's accesses, a COPY or the reset event write are unchanged, and so are
the open parameters and the model's counters. -/
def State.keeps (s t : State) : Prop :=
  t.errBusy = s.errBusy ∧ t.irqEn = s.irqEn ∧ t.ackTimeout = s.ackTimeout ∧ t.retryDelay = s.retryDelay ∧
  t.maxAttempts = s.maxAttempts ∧ t.pollTimeout = s.pollTimeout ∧ t.crcAcc = s.crcAcc ∧ t.txbuf = s.txbuf ∧
  t.rxwin = s.rxwin ∧ t.params = s.params ∧ t.draws = s.draws ∧ t.epoch = s.epoch

/-- What a receive leaves unchanged unless it stores a frame: the host's state, the frame to transmit and both slots
(R234, R267, R292). -/
def State.keepsFrames (s t : State) : Prop :=
  s.keeps t ∧ t.txframe = s.txframe ∧ t.frameLen = s.frameLen ∧
  t.dlslot = s.dlslot ∧ t.dlLen = s.dlLen ∧ t.respslot = s.respslot ∧ t.respLen = s.respLen

/-- `t` is the start of the body stage after `s`: a full window, the declared length to take, and the bytes `more` still
in the channel (R230, R234, R236). -/
def State.bodyBegins (s t : State) (window : Ticks) (declared : Byte) (more : List Byte) : Prop :=
  t.phase = .rxBody ∧ t.op = s.op ∧ t.timer = window ∧ t.need.toNat = declared.toNat ∧ t.taken = 3#7 ∧
  t.declared = declared ∧ t.chanRx = more ∧ t.result = s.result ∧ t.done = s.done ∧ t.wake = s.wake ∧
  t.attempt = s.attempt ∧ t.pollsLeft = s.pollsLeft ∧ t.polls = s.polls ∧ s.keepsFrames t

/-- `t` is where a failed attempt of SEND_ACK leads: the next attempt at once, the delay before it, or NO_ACK after the
last one (R263, R265). -/
def State.attemptFailsTo (s t : State) : Prop :=
  (s.attempt < s.maxAttempts → s.retryDelay = 0#24 →
    t.result = s.result ∧ t.done = s.done ∧
    t.phase = .txSettle1 ∧ t.timer = 20#24 ∧ t.wake = false ∧ t.attempt = s.attempt + 1#8) ∧
  (s.attempt < s.maxAttempts → s.retryDelay ≠ 0#24 →
    t.result = s.result ∧ t.done = s.done ∧
    t.phase = .retryWait ∧ t.timer = s.retryDelay ∧ t.wake = s.wake ∧ t.attempt = s.attempt) ∧
  (s.maxAttempts ≤ s.attempt →
    t.result = ⟨.noAck, false, 0#8, s.maxAttempts, 0x03#8⟩ ∧ t.done = true ∧ t.phase = .idle ∧ t.wake = s.wake)

/-- The polls of WAIT_DL after `k` more of them, saturating at 255 (R310). -/
def State.pollsAfter (s : State) (k : Nat) : Byte := BitVec.ofNat 8 (min (s.polls.toNat + k) 255)

/-- `t` is where a failed poll of WAIT_DL leads: the poll is counted, the sleep begins and the budget is not yet spent
(R310, R313). -/
def State.pollFailsTo (s t : State) : Prop :=
  t.result = s.result ∧ t.done = s.done ∧ t.wake = s.wake ∧ t.pollsLeft = s.pollsLeft ∧ t.polls = s.pollsAfter 1 ∧
  t.phase = .pollSleep ∧ t.timer = 1000#24

/-- The host's duty before a BUILD step: "The host loads TXBUF before each BUILD, SEND or SEND_ACK" (R385). If the next
event is such a command with a legal payload, every payload byte has been written since reset (log 17). -/
def State.payloadLoaded (s : State) : Prop :=
  ∀ (b : BusWrite) (code : Byte) (n : Nat), s.inputs.head? = some (.write b) → s.busy = false →
    (decode b = .ok (.build code n) ∨ decode b = .ok (.send code n) ∨ decode b = .ok (.sendAck code n)) →
    payloadLegal (classify s.params.codes code) n = true → s.txbuf.filled n = true

/-- The next event is a direct read of an entry of TXBUF, TXFRAME or RXWIN that nothing has written since reset
(R382). -/
def State.readsUnwritten (s : State) : Prop :=
  ∃ (a : Offset) (i : BitVec 6), s.inputs.head? = some (.read a) ∧
    ((registerAt a = some (.txbuf i) ∧ s.txbuf.read i.toNat = none) ∨
      (registerAt a = some (.txframe i) ∧ s.txframe.read i.toNat = none) ∨
      (registerAt a = some (.rxwin i) ∧ s.rxwin.read i.toNat = none))

/-- The step answers a bus read, the next event, with the word `w` and no bus error, leaves the events `rest` and changes
nothing else (R87, R90). -/
def State.answersRead (s : State) (rest : List Event) (w : Word) : Prop :=
  step s = .next { s with inputs := rest, reply := some ⟨false, some w⟩ }

/-- The event that the next step takes, none when nothing is scheduled. -/
def State.nextEvent (s : State) : Option Event := s.inputs.head?

/-! ### Schedules that claims use -/

/-- `n` ticks of the time base. -/
def tickEvents (n : Nat) : List Event := List.replicate n .tick

/-- A channel that accepts and drains promptly during one bracket of an `n`-byte frame (R220, R227). -/
def bracketEvents (n : Nat) : List Event :=
  tickEvents 20 ++ List.replicate n .accept ++ List.replicate n .sent ++ [.core] ++ tickEvents 20

/-- `k` attempts of SEND_ACK over a silent channel: each a bracket and a window of `T` ticks, with `D` ticks between
two attempts (R263, R269). -/
def silentAttempts (n T D : Nat) : Nat → List Event
  | 0 => []
  | 1 => bracketEvents n ++ tickEvents T
  | k + 2 => bracketEvents n ++ tickEvents T ++ tickEvents D ++ silentAttempts n T D (k + 1)

/-- A well delimited receive: three header bytes with a legal declared length and as many body bytes as declared
(R191, R192). -/
def delimited (hdr body : List Byte) : Prop :=
  hdr.length = 3 ∧ lengthLegal (hdr.getD 2 0#8) = true ∧ body.length = (hdr.getD 2 0#8).toNat

end Sys2Proof.Machine
end

