-- ==== Sys2Proof/Certificates/Slice0/Obligations.lean ====
section
/-! DEFINITION. The statements for the provers. A record update `{ s with … }` as the next state says that every field
not named is unchanged. The schedule `inputs` is the model's (log 1), and so is the form of the answer `reply` (log 11). -/

open Sys2Proof Sys2Proof.Machine

/-! ### The CRC engine -/

/-- The check values of the source (R156). -/
def Obligations.CrcCheckValues : Prop :=
  crc16 [0x31#8, 0x32#8, 0x33#8, 0x34#8, 0x35#8, 0x36#8, 0x37#8, 0x38#8, 0x39#8] = 0x31C3#16 ∧
  crc16 [] = 0x0000#16

/-- The byte-wise, byte-parallel and table forms and both datapaths compute the normative update
(R152, R153, R154, R157). -/
def Obligations.CrcFormsAgree : Prop :=
  ∀ (acc : Crc) (b : Byte),
    crcByteWise acc b = crcByte acc b ∧
    crcByteParallel acc b = crcByte acc b ∧
    crcByteTable acc b = crcByte acc b ∧
    ∀ impl : CrcImpl, crcDatapath impl acc b = crcByte acc b

/-- Linearity, streaming and invisibility of leading zeros (R155). -/
def Obligations.CrcAlgebraicLaws : Prop :=
  (∀ (a a' : Crc) (b b' : Byte), crcByte (a ^^^ a') (b ^^^ b') = crcByte a b ^^^ crcByte a' b') ∧
  (∀ s t : List Byte, crc16 (s ++ t) = t.foldl crcByte (crc16 s)) ∧
  (∀ (k : Nat) (s : List Byte), crc16 (List.replicate k 0x00#8 ++ s) = crc16 s)

/-- The residue test accepts exactly the sequences whose trailer is their CRC (R158). -/
def Obligations.CrcResidueTest : Prop :=
  ∀ (s : List Byte) (x y : Byte),
    crc16 (s ++ [hiByte (crc16 s), loByte (crc16 s)]) = 0x0000#16 ∧
    (crc16 (s ++ [x, y]) = 0x0000#16 ↔ crc16 s = x ++ y)

/-! ### The frame codec -/

/-- With the constraint of R10 every command byte has its own class and every other byte is INVALID
(R122, R180). -/
def Obligations.CommandClassesAreDisjoint : Prop :=
  ∀ c : Codes, c.wellFormed = true →
    classify c c.cmdSendVld = .sendVld ∧
    classify c c.cmdInqVersion = .inquire ∧ classify c c.cmdInqMac = .inquire ∧
    classify c c.cmdInqNettime = .inquire ∧ classify c c.cmdInqQuality = .inquire ∧
    classify c c.cmdInqStatus = .inquire ∧
    classify c c.cmdSetTest = .setTest ∧
    ∀ code : Byte, code ∉ c.outbound → classify c code = .invalid

/-- The declared lengths of the legal payloads (R182). -/
def Obligations.DeclaredLengthsOfLegalPayloads : Prop :=
  (∀ n : Nat, payloadLegal .sendVld n = true →
    declaredLength .sendVld n = 0x03 + n ∧ 0x04 ≤ 0x03 + n ∧ 0x03 + n ≤ 0x3D) ∧
  declaredLength .inquire 0 = 0x03 ∧
  declaredLength .setTest 1 = 0x04 ∧
  (∀ (cls : CommandClass) (n : Nat), payloadLegal cls n = true →
    declaredLength cls n = 3 + n ∧ (BitVec.ofNat 8 (declaredLength cls n)).toNat = 3 + n)

/-- The layout of an encoded frame: its length, markers, declared length, code, payload and big-endian CRC
(R120, R121, R183). -/
def Obligations.EncodedFrameLayout : Prop :=
  ∀ (c : Codes) (code : Byte) (p : List Byte), payloadLegal (classify c code) p.length = true →
    (encodeFrame c code p).length = p.length + 6 ∧ p.length + 6 ≤ 64 ∧
    (encodeFrame c code p).take 4 = [0xFA#8, 0xF5#8, BitVec.ofNat 8 (3 + p.length), code] ∧
    ((encodeFrame c code p).drop 4).take p.length = p ∧
    (encodeFrame c code p).drop (p.length + 4) =
      [hiByte (crc16 (((encodeFrame c code p).drop 2).take (p.length + 2))),
       loByte (crc16 (((encodeFrame c code p).drop 2).take (p.length + 2)))]

/-- Parsing a built frame gives back its type, payload, length and bytes (R196). -/
def Obligations.CodecRoundTrip : Prop :=
  ∀ (c : Codes) (code : Byte) (p : List Byte), payloadLegal (classify c code) p.length = true →
    ∃ f : Frame,
      parse ((encodeFrame c code p).take 3) ((encodeFrame c code p).drop 3) = some f ∧
      f.type = code ∧ f.payload = p ∧ f.length.toNat = 3 + p.length ∧ f.raw = encodeFrame c code p

/-- One flipped bit at an offset 3 .. N-1 of a built frame gives CRC_MISMATCH (R197(a)). -/
def Obligations.SingleBitErrorsAreDetected : Prop :=
  ∀ (c : Codes) (code : Byte) (p : List Byte) (i k : Nat),
    payloadLegal (classify c code) p.length = true → 3 ≤ i → i < p.length + 6 → k < 8 →
    parse (((encodeFrame c code p).modify i (· ^^^ (1#8 <<< k))).take 3)
      (((encodeFrame c code p).modify i (· ^^^ (1#8 <<< k))).drop 3) = none

/-- Any bytes in the marker positions are accepted (R195, R197(c)). -/
def Obligations.MarkersAreNotChecked : Prop :=
  ∀ (hdr body : List Byte) (x y : Byte), hdr.length = 3 →
    ((parse hdr body).isSome = (parse [x, y, hdr.getD 2 0#8] body).isSome) ∧
    ∀ f, parse hdr body = some f →
      ∃ f', parse [x, y, hdr.getD 2 0#8] body = some f' ∧ f'.type = f.type ∧ f'.payload = f.payload ∧
        f'.raw = [x, y, hdr.getD 2 0#8] ++ body

/-! ### Encodings and the register map -/

/-- Decoding the encoding of a well-formed instruction gives it back, every operand included (R110, R160, R161). -/
def Obligations.DecodeAfterEncode : Prop :=
  ∀ i : Instr, i.wellFormed = true → decode (encode i) = .ok i

/-- A bus write that decodes is the encoding of the well-formed instruction it decodes to (R110, R115). -/
def Obligations.EncodeAfterDecode : Prop :=
  ∀ (b : BusWrite) (i : Instr), decode b = .ok i → encode i = b ∧ i.wellFormed = true

/-- Bus writes written out from the encodings of R110, R111, R117, R160 and R161 decode to their instructions. -/
def Obligations.WrittenOutWordsDecode : Prop :=
  decode ⟨0x000#10, 0x0003A101#32⟩ = .ok (.build 0xA1#8 3) ∧
  decode ⟨0x000#10, 0x0000A202#32⟩ = .ok (.send 0xA2#8 0) ∧
  decode ⟨0x000#10, 0x0003A103#32⟩ = .ok (.sendAck 0xA1#8 3) ∧
  decode ⟨0x000#10, 0x00000004#32⟩ = .ok (.poll 0x00#8 0) ∧
  decode ⟨0x000#10, 0x00040005#32⟩ = .ok (.copyDl 0x00#8 4) ∧
  decode ⟨0x000#10, 0x00FF0006#32⟩ = .ok (.copyResp 0x00#8 255) ∧
  decode ⟨0x000#10, 0x00030007#32⟩ = .ok (.waitDl 0x00#8 3) ∧
  decode ⟨0x020#10, 0xABCD1234#32⟩ = .ok (.crcSeed 0xABCD1234#32) ∧
  decode ⟨0x024#10, 0xFFFFFF56#32⟩ = .ok (.crcByte 0xFFFFFF56#32)

/-- A CMD word decodes exactly when its reserved bits are 0 and its OP is 0x01 .. 0x07 (R114, R115). -/
def Obligations.CommandWordsAreLegalOrRefused : Prop :=
  ∀ w : Word,
    ((∃ i, decode ⟨0x000#10, w⟩ = .ok i) ↔
      (w.extractLsb' 24 8 = 0#8 ∧ 1 ≤ (w.extractLsb' 0 8).toNat ∧ (w.extractLsb' 0 8).toNat ≤ 7))

/-- The address decode inverts the register map, and the aligned holes are exactly 0x03C .. 0x0FC (R31, R83). -/
def Obligations.AddressDecodeInvertsTheMap : Prop :=
  (∀ r : Reg, aligned r.offset = true ∧ registerAt r.offset = some r) ∧
  (∀ (a : Offset) (r : Reg), aligned a = true → registerAt a = some r → r.offset = a) ∧
  (∀ a : Offset, aligned a = true → (registerAt a = none ↔ 0x03C ≤ a.toNat ∧ a.toNat ≤ 0x0FC))

/-! ### The step -/

/-- When the next event is a bus write that decodes, the step answers the access (log 11) and runs that instruction
(R2, R117; log 1). -/
def Obligations.StepRunsTheDecodedInstruction : Prop :=
  ∀ (s : State) (b : BusWrite) (rest : List Event) (i : Instr),
    s.inputs = .write b :: rest → decode b = .ok i →
    step s = exec i { s with inputs := rest, reply := some ⟨false, none⟩ }

/-- Every step has a next state: no error stops the block (R340). -/
def Obligations.NoErrorStopsTheBlock : Prop :=
  ∀ s : State, ∃ t : State, step s = .next t

/-! ### The host CRC unit -/

/-- CRC_SEED at any time, busy or not: the low half of the word becomes CRC_ACC and nothing else changes (R160). -/
def Obligations.CrcSeedWritesTheAccumulator : Prop :=
  ∀ (s : State) (v : Word),
    exec (.crcSeed v) s = .next { s with crcAcc := v.extractLsb' 0 16 } ∧
    (∀ rest, s.inputs = .write ⟨0x020#10, v⟩ :: rest →
      ∃ r : BusReply, r.err = false ∧
        step s = .next { s with crcAcc := v.extractLsb' 0 16, inputs := rest, reply := some r }) ∧
    crcByte 0x2672#16 0x32#8 = 0x20B5#16

/-- CRC_BYTE at any time, busy or not: the low byte of the word is fed to the accumulator and nothing else changes
(R161). -/
def Obligations.CrcByteAdvancesTheAccumulator : Prop :=
  ∀ (s : State) (v : Word),
    exec (.crcByte v) s = .next { s with crcAcc := crcByte s.crcAcc (v.extractLsb' 0 8) } ∧
    (∀ rest, s.inputs = .write ⟨0x024#10, v⟩ :: rest →
      ∃ r : BusReply, r.err = false ∧
        step s = .next
          { s with crcAcc := crcByte s.crcAcc (v.extractLsb' 0 8), inputs := rest, reply := some r }) ∧
    crcByte 0x0000#16 0x00#8 = 0x0000#16 ∧ crcByte 0x0000#16 0x31#8 = 0x2672#16

/-- A read of CRC_ACC returns the accumulator and has no side effect, and after seeding with 0 and feeding the bytes of a
sequence it returns the CRC of the sequence (R162). -/
def Obligations.HostCrcUnitComputesTheCrc : Prop :=
  (∀ (s : State) (rest : List Event), s.inputs = .read 0x020#10 :: rest →
    step s = .next { s with inputs := rest, reply := some ⟨false, some (0#16 ++ s.crcAcc)⟩ }) ∧
  ∀ (s : State) (bytes : List Byte) (hi : BitVec 24) (rest : List Event),
    s.inputs = .write ⟨0x020#10, 0#32⟩ :: bytes.map (fun b => Event.write ⟨0x024#10, hi ++ b⟩)
      ++ .read 0x020#10 :: rest →
    Sys2Proof.core.run (bytes.length + 2) s = .next
      { s with
        crcAcc := crc16 bytes
        reply := some ⟨false, some (0#16 ++ crc16 bytes)⟩
        inputs := rest }

/-- Nothing but a write to CRC_ACC or CRC_DATA and the reset event changes CRC_ACC (R398). -/
def Obligations.OperationsNeverTouchTheCrcUnit : Prop :=
  ∀ s t : State, step s = .next t →
    (∀ v, s.nextEvent ≠ some (.write ⟨0x020#10, v⟩)) → (∀ v, s.nextEvent ≠ some (.write ⟨0x024#10, v⟩)) →
    s.nextEvent ≠ some .reset → t.crcAcc = s.crcAcc

/-! ### BUILD, SEND, SEND_ACK -/

/-- BUILD of a legal payload, when idle: the frame is in TXFRAME, the rest of TXFRAME and every other field but the
named ones are unchanged (R185, R186). -/
def Obligations.BuildWritesTheFrame : Prop :=
  ∀ (s : State) (code : Byte) (len : Nat), s.phase = .idle → len < 256 →
    payloadLegal (classify s.params.codes code) len = true →
    ∃ m : Memory,
      exec (.build code len) s = .next
        { s with
          done := true, op := .build, code := code, len := BitVec.ofNat 8 len
          result := ⟨.ok, false, 0#8, BitVec.ofNat 8 (len + 6), 0x01#8⟩
          txframe := m, frameLen := BitVec.ofNat 7 (len + 6) } ∧
      ∀ i : Nat, m.read i =
        if i < len + 6 then (encodeFrame s.params.codes code (s.bytes .txbuf 0 len))[i]? else s.txframe.read i

/-- BUILD, SEND and SEND_ACK of an illegal payload, when idle: INVALID_ARG at once, with no channel activity and
TXFRAME, FRAME_LEN and wake unchanged (R185, R261, R342). -/
def Obligations.IllegalPayloadIsInvalidArg : Prop :=
  ∀ (s : State) (code : Byte) (len : Nat), s.phase = .idle → len < 256 →
    payloadLegal (classify s.params.codes code) len = false →
    exec (.build code len) s = .next
      { s with done := true, op := .build, code := code, len := BitVec.ofNat 8 len
               result := ⟨.invalidArg, false, 0#8, 0#8, 0x01#8⟩ } ∧
    exec (.send code len) s = .next
      { s with done := true, op := .send, code := code, len := BitVec.ofNat 8 len
               result := ⟨.invalidArg, false, 0#8, 0#8, 0x02#8⟩ } ∧
    exec (.sendAck code len) s = .next
      { s with done := true, op := .sendAck, code := code, len := BitVec.ofNat 8 len
               result := ⟨.invalidArg, false, 0#8, 0#8, 0x03#8⟩ }

/-- SEND of a legal payload, when idle: the frame is built and the bracket begins with the falling edge
(R220, R221, R270). -/
def Obligations.SendBeginsTheBracket : Prop :=
  ∀ (s : State) (code : Byte) (len : Nat), s.phase = .idle → len < 256 →
    payloadLegal (classify s.params.codes code) len = true →
    ∃ m : Memory,
      exec (.send code len) s = .next
        { s with
          done := false, op := .send, code := code, len := BitVec.ofNat 8 len
          txframe := m, frameLen := BitVec.ofNat 7 (len + 6)
          phase := .txSettle1, timer := 20#24, wake := false } ∧
      ∀ i : Nat, m.read i =
        if i < len + 6 then (encodeFrame s.params.codes code (s.bytes .txbuf 0 len))[i]? else s.txframe.read i

/-- SEND_ACK of a legal payload with attempts, when idle: the frame is built once and the first attempt begins with the
falling edge (R220, R221, R260). -/
def Obligations.SendAckBeginsTheFirstAttempt : Prop :=
  ∀ (s : State) (code : Byte) (len : Nat), s.phase = .idle → len < 256 → s.maxAttempts ≠ 0#8 →
    payloadLegal (classify s.params.codes code) len = true →
    ∃ m : Memory,
      exec (.sendAck code len) s = .next
        { s with
          done := false, op := .sendAck, code := code, len := BitVec.ofNat 8 len, attempt := 1#8
          txframe := m, frameLen := BitVec.ofNat 7 (len + 6)
          phase := .txSettle1, timer := 20#24, wake := false } ∧
      ∀ i : Nat, m.read i =
        if i < len + 6 then (encodeFrame s.params.codes code (s.bytes .txbuf 0 len))[i]? else s.txframe.read i

/-- SEND_ACK of a legal payload with MAX_ATTEMPTS = 0, when idle: the frame is built and the operation completes NO_ACK with no channel activity
(R266). -/
def Obligations.ZeroAttemptsIsNoAck : Prop :=
  ∀ (s : State) (code : Byte) (len : Nat), s.phase = .idle → len < 256 → s.maxAttempts = 0#8 →
    payloadLegal (classify s.params.codes code) len = true →
    ∃ m : Memory,
      exec (.sendAck code len) s = .next
        { s with
          done := true, op := .sendAck, code := code, len := BitVec.ofNat 8 len, attempt := 1#8
          result := ⟨.noAck, false, 0#8, 0#8, 0x03#8⟩
          txframe := m, frameLen := BitVec.ofNat 7 (len + 6) } ∧
      ∀ i : Nat, m.read i =
        if i < len + 6 then (encodeFrame s.params.codes code (s.bytes .txbuf 0 len))[i]? else s.txframe.read i

/-- Over a prompt channel SEND runs one bracket of 40 ticks, puts the built frame on the wire and completes OK with the
wake line high. The wake line is low and the operation runs through each of the 20 ticks before the first byte and of the
20 after the flush. A transmit leaves TX_FLUSH only by the core's step over a drained channel, and TX_BYTES only by an
acceptance (R222-R227, R270). A payload byte that the host never wrote is a free byte of that frame (log 17). -/
def Obligations.SendTransmitsTheFrameOnce : Prop :=
  (∀ (s : State) (code : Byte) (len : Nat) (rest : List Event), s.phase = .idle → len < 256 → s.chanTx = [] →
    payloadLegal (classify s.params.codes code) len = true →
    s.inputs = .write (encode (.send code len)) :: bracketEvents (len + 6) ++ rest →
    (∀ k : Nat, k < 20 → ∃ u : State,
      Sys2Proof.core.run (1 + k) s = .next u ∧
      u.phase = .txSettle1 ∧ u.timer = BitVec.ofNat 24 (20 - k) ∧ u.wake = false ∧ u.wire = s.wire ∧ u.chanTx = []) ∧
    (∃ u : State,
      Sys2Proof.core.run (1 + 20) s = .next u ∧
      u.phase = .txBytes ∧ u.idx = 0#7 ∧ u.wake = false ∧ u.wire = s.wire ∧ u.chanTx = []) ∧
    (∃ u : State,
      Sys2Proof.core.run (1 + 20 + (len + 6)) s = .next u ∧
      u.phase = .txFlush ∧ u.wake = false ∧ u.wire = s.wire ∧
      u.chanTx = encodeFrame s.params.codes code (s.bytes .txbuf 0 len)) ∧
    (∀ k : Nat, k < 20 → ∃ u : State,
      Sys2Proof.core.run (1 + 20 + (len + 6) + (len + 6) + 1 + k) s = .next u ∧
      u.phase = .txSettle2 ∧ u.timer = BitVec.ofNat 24 (20 - k) ∧ u.wake = false ∧
      u.wire = s.wire ++ encodeFrame s.params.codes code (s.bytes .txbuf 0 len) ∧ u.chanTx = []) ∧
    ∃ t : State,
      Sys2Proof.core.run (1 + (bracketEvents (len + 6)).length) s = .next t ∧
      t.result = ⟨.ok, false, 0#8, 1#8, 0x02#8⟩ ∧ t.done = true ∧ t.phase = .idle ∧ t.wake = true ∧
      t.wire = s.wire ++ encodeFrame s.params.codes code (s.bytes .txbuf 0 len) ∧ t.chanTx = [] ∧
      t.chanRx = s.chanRx ∧ t.inputs = rest ∧ s.keeps t ∧
      t.dlslot = s.dlslot ∧ t.dlLen = s.dlLen ∧ t.respslot = s.respslot ∧ t.respLen = s.respLen) ∧
  (∀ (s : State) (rest : List Event), s.phase = .txFlush → s.inputs = .core :: rest →
    step s = .next (if s.chanTx = [] then { s with phase := .txSettle2, timer := 20#24, inputs := rest }
      else { s with inputs := rest })) ∧
  (∀ s t : State, step s = .next t → s.nextEvent ≠ some .reset →
    (s.phase = .txBytes ∧ s.nextEvent ≠ some .accept) ∨ (s.phase = .txFlush ∧ s.chanTx ≠ []) →
    t.phase = s.phase ∧ t.wake = s.wake)

/-- Over a prompt but silent channel, with a window after each bracket and a delay between two attempts, SEND_ACK
transmits the same frame in each of its attempts and completes NO_ACK (R260-R265, R268). How a tick of a window or a delay
counts is TicksCountInSixPhasesOnly. That it ends for MAX_ATTEMPTS = 255 is log 13, and a
payload byte that the host never wrote is a free byte of the frame (log 17). -/
def Obligations.SilentChannelExhaustsTheAttempts : Prop :=
  ∀ (s : State) (code : Byte) (len : Nat) (rest : List Event), s.phase = .idle → len < 256 →
    s.chanTx = [] → s.chanRx = [] → s.maxAttempts ≠ 0#8 →
    payloadLegal (classify s.params.codes code) len = true →
    s.inputs = .write (encode (.sendAck code len))
      :: silentAttempts (len + 6) s.ackTimeout.toNat s.retryDelay.toNat s.maxAttempts.toNat ++ rest →
    ∃ t : State,
      Sys2Proof.core.run
        (1 + (silentAttempts (len + 6) s.ackTimeout.toNat s.retryDelay.toNat s.maxAttempts.toNat).length) s
        = .next t ∧
      t.result = ⟨.noAck, false, 0#8, s.maxAttempts, 0x03#8⟩ ∧ t.done = true ∧ t.phase = .idle ∧ t.wake = true ∧
      t.wire = s.wire ++ (List.replicate s.maxAttempts.toNat
        (encodeFrame s.params.codes code (s.bytes .txbuf 0 len))).flatten ∧
      t.inputs = rest ∧ s.keeps t ∧
      t.dlslot = s.dlslot ∧ t.dlLen = s.dlLen ∧ t.respslot = s.respslot ∧ t.respLen = s.respLen

/-- How the receive of an attempt ends it: RESP_ACK completes OK with the attempt's number, and every other frame, a CRC
mismatch, a bad declared length, a truncated stage and a zero window fail the attempt. What was taken is consumed and the
frame is stored nowhere (R233, R263-R265, R267). That attempt 255 of MAX_ATTEMPTS = 255 is the last one is log 13, and the
count in `st.taken` from a state inside a stage is log 12. -/
def Obligations.AttemptEndsByItsFrame : Prop :=
  (∀ (s : State) (hdr body rest : List Byte), s.phase = .rxHdr → s.op = .sendAck → s.taken = 0#7 → s.need = 3#7 →
    s.ackTimeout ≠ 0#24 → s.inputs = [] → delimited hdr body → s.chanRx = hdr ++ body ++ rest →
    ∃ t : State,
      Sys2Proof.core.run (hdr.length + body.length) s = .next t ∧ t.chanRx = rest ∧ s.keepsFrames t ∧
      ((∃ f, parse hdr body = some f ∧ f.type = s.params.codes.respAck) →
        t.result = ⟨.ok, false, s.params.codes.respAck, s.attempt, 0x03#8⟩ ∧ t.done = true ∧ t.phase = .idle ∧
        t.wake = s.wake) ∧
      ((∀ f, parse hdr body = some f → f.type ≠ s.params.codes.respAck) → s.attemptFailsTo t)) ∧
  (∀ (s : State) (hdr rest : List Byte), s.phase = .rxHdr → s.op = .sendAck → s.taken = 0#7 → s.need = 3#7 →
    s.inputs = [] → hdr.length = 3 → lengthLegal (hdr.getD 2 0#8) = false → s.chanRx = hdr ++ rest →
    ∃ t : State,
      Sys2Proof.core.run 3 s = .next t ∧ t.chanRx = rest ∧ t.taken = 3#7 ∧ s.keepsFrames t ∧ s.attemptFailsTo t) ∧
  (∀ (s : State) (rest : List Event), s.phase.receiving = true → s.op = .sendAck → s.timer = 1#24 →
    s.chanRx.length < s.need.toNat → s.inputs = .tick :: rest →
    ∃ t : State,
      step s = .next t ∧ t.inputs = rest ∧ t.chanRx = [] ∧ t.taken = s.taken + BitVec.ofNat 7 s.chanRx.length ∧
      s.keepsFrames t ∧ s.attemptFailsTo t) ∧
  (∀ (s : State) (rest : List Event), s.phase = .txSettle2 → s.op = .sendAck → s.timer = 1#24 → s.ackTimeout = 0#24 →
    s.inputs = .tick :: rest →
    ∃ t : State,
      step s = .next t ∧ t.inputs = rest ∧ t.chanRx = s.chanRx ∧ t.taken = 0#7 ∧ s.keepsFrames t ∧
      { s with wake := true }.attemptFailsTo t)

/-! ### POLL and the receive -/

/-- POLL, when idle: an empty channel is EMPTY in the same step with no byte taken. With bytes present the header stage
begins with a window of POLL_TIMEOUT ticks, and a zero window is TRUNCATED at once with nothing consumed
(R230, R233, R291, R295, R349). -/
def Obligations.PollBegins : Prop :=
  ∀ (s : State) (code : Byte) (len : Nat), s.phase = .idle → len < 256 →
    (s.chanRx = [] →
      exec (.poll code len) s = .next
        { s with done := true, op := .poll, code := code, len := BitVec.ofNat 8 len
                 result := ⟨.empty, false, 0#8, 0#8, 0x04#8⟩ }) ∧
    (s.chanRx ≠ [] → s.pollTimeout ≠ 0#24 →
      exec (.poll code len) s = .next
        { s with done := false, op := .poll, code := code, len := BitVec.ofNat 8 len
                 phase := .rxHdr, taken := 0#7, need := 3#7, timer := s.pollTimeout }) ∧
    (s.chanRx ≠ [] → s.pollTimeout = 0#24 →
      exec (.poll code len) s = .next
        { s with done := true, op := .poll, code := code, len := BitVec.ofNat 8 len
                 taken := 0#7, rx := .truncated
                 result := ⟨.truncated, false, 0#8, 0#8, 0x04#8⟩ })

/-- A POLL that finds a whole good frame stores all of its bytes in the slot of its class, leaves the other slot and the
bytes behind the frame, and reports type, class and length (R290, R293, R295). -/
def Obligations.PollStoresAGoodFrame : Prop :=
  ∀ (s : State) (code : Byte) (len : Nat) (hdr body rest : List Byte) (f : Frame),
    s.phase = .idle → len < 256 → s.pollTimeout ≠ 0#24 → s.inputs = [.write (encode (.poll code len))] →
    delimited hdr body → s.chanRx = hdr ++ body ++ rest → parse hdr body = some f →
    ∃ t : State,
      Sys2Proof.core.run (1 + (hdr ++ body).length) s = .next t ∧
      t.result = ⟨.ok, decide (f.type = s.params.codes.respDownlink), f.type,
        BitVec.ofNat 8 (hdr ++ body).length, 0x04#8⟩ ∧
      t.done = true ∧ t.phase = .idle ∧ t.chanRx = rest ∧ t.wake = s.wake ∧
      s.keeps t ∧ t.txframe = s.txframe ∧ t.frameLen = s.frameLen ∧
      (if f.type = s.params.codes.respDownlink then
        t.dlLen = BitVec.ofNat 7 (hdr ++ body).length ∧
        (∀ i : Nat, t.dlslot.read i =
          if i < (hdr ++ body).length then (hdr ++ body)[i]? else s.dlslot.read i) ∧
        t.respslot = s.respslot ∧ t.respLen = s.respLen
       else
        t.respLen = BitVec.ofNat 7 (hdr ++ body).length ∧
        (∀ i : Nat, t.respslot.read i =
          if i < (hdr ++ body).length then (hdr ++ body)[i]? else s.respslot.read i) ∧
        t.dlslot = s.dlslot ∧ t.dlLen = s.dlLen)

/-- A POLL that finds a bad CRC or a bad declared length discards what it took, leaves both slots and everything
behind, and reports how many bytes it took (R192, R193, R292, R344, R345). -/
def Obligations.PollDiscardsABadFrame : Prop :=
  ∀ (s : State) (code : Byte) (len : Nat) (hdr body rest : List Byte),
    s.phase = .idle → len < 256 → s.pollTimeout ≠ 0#24 → s.inputs = [.write (encode (.poll code len))] →
    (delimited hdr body → s.chanRx = hdr ++ body ++ rest → parse hdr body = none →
      ∃ t : State, Sys2Proof.core.run (1 + (hdr ++ body).length) s = .next t ∧
        t.result = ⟨.crcMismatch, false, 0#8, BitVec.ofNat 8 (hdr ++ body).length, 0x04#8⟩ ∧
        t.done = true ∧ t.phase = .idle ∧ t.chanRx = rest ∧ t.wake = s.wake ∧
        s.keeps t ∧ t.txframe = s.txframe ∧ t.frameLen = s.frameLen ∧
        t.dlslot = s.dlslot ∧ t.dlLen = s.dlLen ∧ t.respslot = s.respslot ∧ t.respLen = s.respLen) ∧
    (hdr.length = 3 → lengthLegal (hdr.getD 2 0#8) = false → s.chanRx = hdr ++ rest →
      ∃ t : State, Sys2Proof.core.run 4 s = .next t ∧
        t.result = ⟨.badLength, false, 0#8, 3#8, 0x04#8⟩ ∧
        t.done = true ∧ t.phase = .idle ∧ t.chanRx = rest ∧ t.wake = s.wake ∧
        s.keeps t ∧ t.txframe = s.txframe ∧ t.frameLen = s.frameLen ∧
        t.dlslot = s.dlslot ∧ t.dlLen = s.dlLen ∧ t.respslot = s.respslot ∧ t.respLen = s.respLen)

/-- A read stage of POLL over a silent channel ends on its last counted tick and not before, and its last tick over a
channel with too few bytes takes them first: TRUNCATED with the number of bytes taken (R230-R232, R343). That `st.taken`
counts the bytes inside a stage, and where they are staged, is log 12. -/
def Obligations.SilentWindowIsTruncated : Prop :=
  (∀ (s : State) (k : Nat) (rest : List Event), s.phase.receiving = true → s.op = .poll → s.need ≠ 0#7 →
    s.chanRx = [] → k ≤ s.timer.toNat → s.inputs = tickEvents k ++ rest →
    (k < s.timer.toNat → Sys2Proof.core.run k s = .next { s with timer := s.timer - BitVec.ofNat 24 k, inputs := rest }) ∧
    (k = s.timer.toNat → k ≠ 0 → Sys2Proof.core.run k s = .next
      { s with
        timer := 0#24, inputs := rest, rx := .truncated, phase := .idle, done := true
        result := ⟨.truncated, false, 0#8, s.taken.zeroExtend 8, 0x04#8⟩ })) ∧
  (∀ (s : State) (rest : List Event), s.phase.receiving = true → s.op = .poll → s.timer = 1#24 →
    s.chanRx.length < s.need.toNat → s.inputs = .tick :: rest → ∃ m : Memory,
    step s = .next { s with
      timer := 0#24, chanRx := [], stg := m
      taken := s.taken + BitVec.ofNat 7 s.chanRx.length, need := s.need - BitVec.ofNat 7 s.chanRx.length
      rx := .truncated, phase := .idle, done := true, inputs := rest
      result := ⟨.truncated, false, 0#8, (s.taken + BitVec.ofNat 7 s.chanRx.length).zeroExtend 8, 0x04#8⟩ } ∧
    (s.taken.toNat + s.chanRx.length ≤ 64 → ∀ i : Nat, m.read i =
      if s.taken.toNat ≤ i ∧ i < s.taken.toNat + s.chanRx.length then s.chanRx[i - s.taken.toNat]?
      else s.stg.read i))

/-- The receive of a POLL ends within its windows whatever the channel does: no event lengthens what is left, and each
tick shortens it or ends the operation. The body stage of every receive begins, by the core's step or by a tick, with a
full window of its own and the declared length of bytes to take (R230, R234, R236, R239; the staging is log 12). -/
def Obligations.PollReceiveIsBounded : Prop :=
  (∀ s t : State, s.op = .poll → s.phase.receiving = true → s.timer ≠ 0#24 → step s = .next t →
    t.phase = .idle ∨
    (t.phase.receiving = true ∧ t.op = .poll ∧ t.timer ≠ 0#24 ∧ t.pollTimeout = s.pollTimeout ∧
      t.timer.toNat + (if t.phase = .rxHdr then t.pollTimeout.toNat else 0)
        ≤ s.timer.toNat + (if s.phase = .rxHdr then s.pollTimeout.toNat else 0) ∧
      (s.nextEvent = some .tick →
        t.timer.toNat + (if t.phase = .rxHdr then t.pollTimeout.toNat else 0)
          < s.timer.toNat + (if s.phase = .rxHdr then s.pollTimeout.toNat else 0)))) ∧
  (∀ (s : State) (window : Ticks) (got more : List Byte), s.phase = .rxHdr →
    (s.op = .sendAck ∧ window = s.ackTimeout) ∨ ((s.op = .poll ∨ s.op = .waitDl) ∧ window = s.pollTimeout) →
    window ≠ 0#24 → s.need ≠ 0#7 → s.taken.toNat + s.need.toNat = 3 → got.length = s.need.toNat →
    lengthLegal (got.getLastD 0#8) = true → s.chanRx = got ++ more →
    (s.inputs = [] → ∃ t : State,
      Sys2Proof.core.run got.length s = .next t ∧ t.inputs = [] ∧ s.bodyBegins t window (got.getLastD 0#8) more) ∧
    (∀ rest : List Event, s.inputs = .tick :: rest → ∃ t : State,
      step s = .next t ∧ t.inputs = rest ∧ s.bodyBegins t window (got.getLastD 0#8) more))

/-! ### COPY_DL, COPY_RESP, WAIT_DL -/

/-- COPY_DL and COPY_RESP, when idle: the first min(maxSize, length) bytes of the slot are in RXWIN, the rest of RXWIN,
the slots and every other field but the named ones are unchanged (R300, R301). -/
def Obligations.CopyTruncatesToMaxSize : Prop :=
  ∀ (s : State) (code : Byte) (n : Nat), s.phase = .idle → n < 256 → s.dlLen.toNat ≤ 64 → s.respLen.toNat ≤ 64 →
    (∃ m : Memory,
      exec (.copyDl code n) s = .next
        { s with
          done := true, op := .copyDl, code := code, len := BitVec.ofNat 8 n, rxwin := m
          result := ⟨.ok, false, 0#8, BitVec.ofNat 8 (min n s.dlLen.toNat), 0x05#8⟩ } ∧
      ∀ i : Nat, m.read i =
        if i < min n s.dlLen.toNat then some (s.byteAt .dlslot i) else s.rxwin.read i) ∧
    (∃ m : Memory,
      exec (.copyResp code n) s = .next
        { s with
          done := true, op := .copyResp, code := code, len := BitVec.ofNat 8 n, rxwin := m
          result := ⟨.ok, false, 0#8, BitVec.ofNat 8 (min n s.respLen.toNat), 0x06#8⟩ } ∧
      ∀ i : Nat, m.read i =
        if i < min n s.respLen.toNat then some (s.byteAt .respslot i) else s.rxwin.read i)

/-- WAIT_DL, when idle: a zero budget completes WAIT_EXHAUSTED with no poll, an empty channel sleeps after one poll, bytes
present begin a receive, and bytes present with a zero window are one failed poll that takes nothing and sleeps
(R233, R291, R310, R311, R313). -/
def Obligations.WaitDlBegins : Prop :=
  ∀ (s : State) (code : Byte) (n : Nat), s.phase = .idle → n < 256 →
    (n = 0 →
      exec (.waitDl code n) s = .next
        { s with done := true, op := .waitDl, code := code, len := 0#8, pollsLeft := 0#8, polls := 0#8
                 result := ⟨.waitExhausted, false, 0#8, 0#8, 0x07#8⟩ }) ∧
    (n ≠ 0 → s.chanRx = [] →
      exec (.waitDl code n) s = .next
        { s with done := false, op := .waitDl, code := code, len := BitVec.ofNat 8 n
                 pollsLeft := BitVec.ofNat 8 n, polls := 1#8, phase := .pollSleep, timer := 1000#24 }) ∧
    (n ≠ 0 → s.chanRx ≠ [] → s.pollTimeout ≠ 0#24 →
      exec (.waitDl code n) s = .next
        { s with done := false, op := .waitDl, code := code, len := BitVec.ofNat 8 n
                 pollsLeft := BitVec.ofNat 8 n, polls := 0#8
                 phase := .rxHdr, taken := 0#7, need := 3#7, timer := s.pollTimeout }) ∧
    (n ≠ 0 → s.chanRx ≠ [] → s.pollTimeout = 0#24 →
      exec (.waitDl code n) s = .next
        { s with done := false, op := .waitDl, code := code, len := BitVec.ofNat 8 n
                 pollsLeft := BitVec.ofNat 8 n, polls := 1#8, taken := 0#7, rx := .truncated
                 phase := .pollSleep, timer := 1000#24 })

/-- Over a silent channel WAIT_DL sleeps exactly 1000 ticks for each unit of its budget, polls as often, and completes
WAIT_EXHAUSTED: every shorter run is in a sleep, with the ticks, the budget and the polls counted (R310, R314, R348). -/
def Obligations.WaitDlExhaustsItsBudget : Prop :=
  ∀ (s : State) (code : Byte) (n : Nat) (rest : List Event), s.phase = .idle → 1 ≤ n → n < 256 → s.chanRx = [] →
    s.inputs = .write (encode (.waitDl code n)) :: tickEvents (1000 * n) ++ rest →
    (∀ k : Nat, k < 1000 * n → ∃ u : State, Sys2Proof.core.run (1 + k) s = .next u ∧
      u.phase = .pollSleep ∧ u.done = false ∧ u.result = s.result ∧
      u.timer = BitVec.ofNat 24 (1000 - k % 1000) ∧ u.pollsLeft = BitVec.ofNat 8 (n - k / 1000) ∧
      u.polls = BitVec.ofNat 8 (1 + k / 1000)) ∧
    ∃ t : State, Sys2Proof.core.run (1 + 1000 * n) s = .next t ∧
      t.result = ⟨.waitExhausted, false, 0#8, BitVec.ofNat 8 n, 0x07#8⟩ ∧ t.done = true ∧ t.phase = .idle ∧
      t.pollsLeft = 0#8 ∧ t.inputs = rest ∧ t.wake = s.wake ∧
      s.keeps t ∧ t.txframe = s.txframe ∧ t.frameLen = s.frameLen ∧
      t.dlslot = s.dlslot ∧ t.dlLen = s.dlLen ∧ t.respslot = s.respslot ∧ t.respLen = s.respLen

/-- A frame in WAIT_DL: a downlink is stored and completes OK, and a response is stored without cost to the budget, its
poll counted, with the next poll at once. The count saturates at 255 (R310, R312). -/
def Obligations.WaitDlFrameOutcome : Prop :=
  ∀ (s : State) (hdr body rest : List Byte) (f : Frame), s.phase = .rxHdr → s.op = .waitDl → s.taken = 0#7 →
    s.need = 3#7 → s.pollTimeout ≠ 0#24 → s.inputs = [] → delimited hdr body →
    s.chanRx = hdr ++ body ++ rest → parse hdr body = some f →
    ∃ t : State,
      Sys2Proof.core.run (hdr.length + body.length) s = .next t ∧ t.chanRx = rest ∧ t.pollsLeft = s.pollsLeft ∧
      t.wake = s.wake ∧ s.keeps t ∧ t.txframe = s.txframe ∧ t.frameLen = s.frameLen ∧
      (if f.type = s.params.codes.respDownlink then
        t.result = ⟨.ok, true, f.type, s.pollsAfter 1, 0x07#8⟩ ∧ t.done = true ∧ t.phase = .idle ∧
        t.dlLen = BitVec.ofNat 7 (hdr ++ body).length ∧ t.respslot = s.respslot ∧ t.respLen = s.respLen ∧
        (∀ i : Nat, t.dlslot.read i =
          if i < (hdr ++ body).length then (hdr ++ body)[i]? else s.dlslot.read i)
       else
        t.result = s.result ∧ t.done = s.done ∧
        t.respLen = BitVec.ofNat 7 (hdr ++ body).length ∧ t.dlslot = s.dlslot ∧ t.dlLen = s.dlLen ∧
        (∀ i : Nat, t.respslot.read i =
          if i < (hdr ++ body).length then (hdr ++ body)[i]? else s.respslot.read i) ∧
        (if rest = [] then t.phase = .pollSleep ∧ t.timer = 1000#24 ∧ t.polls = s.pollsAfter 2
         else t.phase = .rxHdr ∧ t.taken = 0#7 ∧ t.need = 3#7 ∧ t.timer = s.pollTimeout ∧
           t.polls = s.pollsAfter 1))

/-- A failed receive in WAIT_DL (a CRC mismatch, a bad declared length, a truncated stage) consumes what it took, leaves
both slots and the budget, counts its poll and sleeps 1000 ticks. The end of a sleep spends one unit of the budget, and
the operation ends with the last one or polls again (R292, R310, R313, R348). -/
def Obligations.WaitDlFailedPollSleeps : Prop :=
  (∀ (s : State) (hdr body rest : List Byte), s.phase = .rxHdr → s.op = .waitDl → s.taken = 0#7 → s.need = 3#7 →
    s.pollTimeout ≠ 0#24 → s.inputs = [] → delimited hdr body → s.chanRx = hdr ++ body ++ rest →
    parse hdr body = none →
    ∃ t : State,
      Sys2Proof.core.run (hdr.length + body.length) s = .next t ∧ t.chanRx = rest ∧ s.keepsFrames t ∧
      s.pollFailsTo t) ∧
  (∀ (s : State) (hdr rest : List Byte), s.phase = .rxHdr → s.op = .waitDl → s.taken = 0#7 → s.need = 3#7 →
    s.inputs = [] → hdr.length = 3 → lengthLegal (hdr.getD 2 0#8) = false → s.chanRx = hdr ++ rest →
    ∃ t : State, Sys2Proof.core.run 3 s = .next t ∧ t.chanRx = rest ∧ s.keepsFrames t ∧ s.pollFailsTo t) ∧
  (∀ (s : State) (rest : List Event), s.phase.receiving = true → s.op = .waitDl → s.timer = 1#24 →
    s.chanRx.length < s.need.toNat → s.inputs = .tick :: rest →
    ∃ t : State, step s = .next t ∧ t.inputs = rest ∧ t.chanRx = [] ∧ s.keepsFrames t ∧ s.pollFailsTo t) ∧
  (∀ (s : State) (rest : List Event), s.phase = .pollSleep → s.op = .waitDl → s.timer = 1#24 →
    s.inputs = .tick :: rest →
    (s.pollsLeft = 1#8 → step s = .next
      { s with timer := 0#24, pollsLeft := 0#8, inputs := rest, phase := .idle, done := true
               result := ⟨.waitExhausted, false, 0#8, s.polls, 0x07#8⟩ }) ∧
    (s.pollsLeft ≠ 1#8 → s.chanRx = [] → step s = .next
      { s with timer := 1000#24, pollsLeft := s.pollsLeft - 1#8, polls := s.pollsAfter 1, inputs := rest }) ∧
    (s.pollsLeft ≠ 1#8 → s.chanRx ≠ [] → s.pollTimeout ≠ 0#24 → step s = .next
      { s with timer := s.pollTimeout, pollsLeft := s.pollsLeft - 1#8, phase := .rxHdr, taken := 0#7, need := 3#7
               inputs := rest }) ∧
    (s.pollsLeft ≠ 1#8 → s.chanRx ≠ [] → s.pollTimeout = 0#24 → step s = .next
      { s with timer := 1000#24, pollsLeft := s.pollsLeft - 1#8, polls := s.pollsAfter 1, taken := 0#7
               rx := .truncated, inputs := rest }))

/-! ### Writes while busy, illegal words, bus errors -/

/-- While BUSY = 1 the seven CMD words and the writes to TXBUF and the parameter registers are refused with ERR_BUSY as
their only effect. The writes to STATUS and CTRL are accepted at any time: W1C clears exactly the flags whose bit is 1, and
CTRL takes IRQ_EN (R33, R35, R88, R112; the answer's form is log 11). -/
def Obligations.BusyRefusesTheListedWrites : Prop :=
  (∀ s : State, s.phase ≠ .idle →
    (∀ (code : Byte) (n : Nat),
      exec (.build code n) s = .next { s with errBusy := true } ∧
      exec (.send code n) s = .next { s with errBusy := true } ∧
      exec (.sendAck code n) s = .next { s with errBusy := true } ∧
      exec (.poll code n) s = .next { s with errBusy := true } ∧
      exec (.copyDl code n) s = .next { s with errBusy := true } ∧
      exec (.copyResp code n) s = .next { s with errBusy := true } ∧
      exec (.waitDl code n) s = .next { s with errBusy := true }) ∧
    (∀ (r : Reg) (w : Word) (rest : List Event), s.inputs = .write ⟨r.offset, w⟩ :: rest →
      ((∃ i, r = .txbuf i) ∨ r = .ackTimeout ∨ r = .retryDelay ∨ r = .maxAttempts ∨ r = .pollTimeout) →
      step s = .next { s with errBusy := true, inputs := rest, reply := some ⟨false, none⟩ })) ∧
  (∀ (s : State) (w : Word) (rest : List Event),
    (s.inputs = .write ⟨0x004#10, w⟩ :: rest → step s = .next
      { s with done := s.done && !w.getLsbD 1, errBusy := s.errBusy && !w.getLsbD 2
               inputs := rest, reply := some ⟨false, none⟩ }) ∧
    (s.inputs = .write ⟨0x00C#10, w⟩ :: rest → step s = .next
      { s with irqEn := w.getLsbD 0, inputs := rest, reply := some ⟨false, none⟩ }))

/-- A CMD write of an illegal word: refused while busy, else it completes at once with ILLEGAL_OP and the written OP
(R114, R350). -/
def Obligations.IllegalCommandCompletesAtOnce : Prop :=
  ∀ (s : State) (w : Word) (rest : List Event), s.inputs = .write ⟨0x000#10, w⟩ :: rest →
    (w.extractLsb' 24 8 ≠ 0#8 ∨ (w.extractLsb' 0 8).toNat = 0 ∨ 8 ≤ (w.extractLsb' 0 8).toNat) →
    ∃ r : BusReply, r.err = false ∧
      (s.phase = .idle → step s = .next
        { s with done := true, result := ⟨.illegalOp, false, 0#8, 0#8, w.extractLsb' 0 8⟩
                 inputs := rest, reply := some r }) ∧
      (s.phase ≠ .idle → step s = .next { s with errBusy := true, inputs := rest, reply := some r })

/-- A misaligned or unmapped access answers `bus_err = 1` with read data 0 and has no other effect
(R81, R83, R352). -/
def Obligations.BusErrorsHaveNoEffect : Prop :=
  ∀ (s : State) (a : Offset) (w : Word) (rest : List Event),
    (a.extractLsb' 0 2 ≠ 0#2 ∨ (0x03C ≤ a.toNat ∧ a.toNat ≤ 0x0FC)) →
    (s.inputs = .write ⟨a, w⟩ :: rest →
      step s = .next { s with inputs := rest, reply := some ⟨true, some 0#32⟩ }) ∧
    (s.inputs = .read a :: rest →
      step s = .next { s with inputs := rest, reply := some ⟨true, some 0#32⟩ })

/-- A write to a read-only register or buffer entry has no effect. When idle, a write to a parameter register or a TXBUF
entry changes its field or entry and nothing else, and a read after a write returns the field's bits of the word written,
with the reserved bits 0 (R32, R35-R39, R42, R45, R83, R87; the answer's form is log 11). -/
def Obligations.RegisterWritesChangeTheirFieldOnly : Prop :=
  ∀ (s : State) (r : Reg) (w : Word) (rest : List Event), s.inputs = .write ⟨r.offset, w⟩ :: rest →
    ((r = .result ∨ r = .dlLen ∨ r = .respLen ∨ r = .frameLen ∨ r = .config ∨ r = .config2 ∨
      (∃ i, r = .txframe i) ∨ (∃ i, r = .rxwin i)) →
      step s = .next { s with inputs := rest, reply := some ⟨false, none⟩ }) ∧
    (s.phase = .idle →
      (r = .ackTimeout → step s = .next
        { s with ackTimeout := w.extractLsb' 0 24, inputs := rest, reply := some ⟨false, none⟩ }) ∧
      (r = .retryDelay → step s = .next
        { s with retryDelay := w.extractLsb' 0 24, inputs := rest, reply := some ⟨false, none⟩ }) ∧
      (r = .maxAttempts → step s = .next
        { s with maxAttempts := w.extractLsb' 0 8, inputs := rest, reply := some ⟨false, none⟩ }) ∧
      (r = .pollTimeout → step s = .next
        { s with pollTimeout := w.extractLsb' 0 24, inputs := rest, reply := some ⟨false, none⟩ }) ∧
      (∀ i, r = .txbuf i → ∃ m : Memory,
        step s = .next { s with txbuf := m, inputs := rest, reply := some ⟨false, none⟩ } ∧
        ∀ k : Nat, m.read k = if k = i.toNat then some (w.extractLsb' 0 8) else s.txbuf.read k) ∧
      (∀ later : List Event, rest = .read r.offset :: later →
        ∃ t : State, Sys2Proof.core.run 2 s = .next t ∧ t.inputs = later ∧
          (r = .ackTimeout ∨ r = .retryDelay ∨ r = .pollTimeout →
            t.reply = some ⟨false, some (0#8 ++ w.extractLsb' 0 24)⟩) ∧
          (r = .maxAttempts ∨ (∃ i, r = .txbuf i) →
            t.reply = some ⟨false, some (0#24 ++ w.extractLsb' 0 8)⟩) ∧
          (r = .ctrl → t.reply = some ⟨false, some (0#31 ++ w.extractLsb' 0 1)⟩) ∧
          (r = .crcAcc → t.reply = some ⟨false, some (0#16 ++ w.extractLsb' 0 16)⟩) ∧
          (r = .cmd ∨ r = .crcData → t.reply = some ⟨false, some 0#32⟩)))

/-- A read changes nothing but the answer and the model's counter of free bytes (R90; log 9). -/
def Obligations.ReadsHaveNoSideEffect : Prop :=
  ∀ (s : State) (a : Offset) (rest : List Event), s.inputs = .read a :: rest →
    ∃ (r : BusReply) (n : Nat), step s = .next { s with inputs := rest, reply := some r, draws := n }

/-! ### Flags, interrupt, reset -/

/-- Reads of STATUS, RESULT and CONFIG show the state in the fields of R33, R34 and R44, and RESULT.RES is numbered as
in R341. A read of every other register or buffer entry answers the present value, busy or not, with zeros above
(R42, R43, R45, R87, R89), but for TXFRAME and RXWIN while an operation that fills them runs, which answer a free byte
(R89; log 9). An entry that nothing has written shows its free byte (log 7). -/
def Obligations.RegisterWordsShowTheState : Prop :=
  (∀ (s : State) (rest : List Event), s.inputs = .read 0x004#10 :: rest →
    ∃ w : Word, step s = .next { s with inputs := rest, reply := some ⟨false, some w⟩ } ∧
      w.getLsbD 0 = decide (s.phase ≠ .idle) ∧ w.getLsbD 1 = s.done ∧ w.getLsbD 2 = s.errBusy ∧
      w.getLsbD 3 = s.wake ∧ (w.getLsbD 4 = true ↔ s.chanRx ≠ []) ∧ (w.getLsbD 5 = true ↔ s.chanTx = []) ∧
      w.extractLsb' 6 26 = 0#26) ∧
  (∀ (s : State) (rest : List Event), s.inputs = .read 0x008#10 :: rest →
    ∃ w : Word, step s = .next { s with inputs := rest, reply := some ⟨false, some w⟩ } ∧
      w.extractLsb' 0 4 = s.result.res.code ∧ w.getLsbD 4 = s.result.cls ∧ w.extractLsb' 5 3 = 0#3 ∧
      w.extractLsb' 8 8 = s.result.rcode ∧ w.extractLsb' 16 8 = s.result.count ∧ w.extractLsb' 24 8 = s.result.opc) ∧
  (∀ (s : State) (rest : List Event), s.inputs = .read 0x034#10 :: rest →
    step s = .next { s with
      inputs := rest
      reply := some ⟨false, some (if s.params.crcImpl = .byteParallel then 0x01143A40#32 else 0x00143A40#32)⟩ }) ∧
  [Res.none, .ok, .invalidArg, .noAck, .empty, .truncated, .crcMismatch, .badLength, .waitExhausted, .illegalOp].map
    Res.code = [0#4, 1#4, 2#4, 3#4, 4#4, 5#4, 6#4, 7#4, 8#4, 9#4] ∧
  (∀ (s : State) (r : Reg) (rest : List Event), s.inputs = .read r.offset :: rest →
    (r = .cmd ∨ r = .crcData → s.answersRead rest 0#32) ∧
    (r = .ctrl → s.answersRead rest (0#31 ++ BitVec.ofBool s.irqEn)) ∧
    (r = .ackTimeout → s.answersRead rest (0#8 ++ s.ackTimeout)) ∧
    (r = .retryDelay → s.answersRead rest (0#8 ++ s.retryDelay)) ∧
    (r = .maxAttempts → s.answersRead rest (0#24 ++ s.maxAttempts)) ∧
    (r = .pollTimeout → s.answersRead rest (0#8 ++ s.pollTimeout)) ∧
    (r = .crcAcc → s.answersRead rest (0#16 ++ s.crcAcc)) ∧
    (r = .dlLen → s.answersRead rest (0#25 ++ s.dlLen)) ∧
    (r = .respLen → s.answersRead rest (0#25 ++ s.respLen)) ∧
    (r = .frameLen → s.answersRead rest (0#25 ++ s.frameLen)) ∧
    (r = .config2 → s.answersRead rest 0x000003E8#32) ∧
    (∀ i, r = .txbuf i → s.answersRead rest (0#24 ++ s.byteAt .txbuf i.toNat)) ∧
    (∀ i, r = .txframe i →
      if s.phase ≠ .idle ∧ (s.op = .build ∨ s.op = .send ∨ s.op = .sendAck) then
        ∃ b : Byte, step s = .next
          { s with inputs := rest, reply := some ⟨false, some (0#24 ++ b)⟩, draws := s.draws + 1 }
      else s.answersRead rest (0#24 ++ s.byteAt .txframe i.toNat)) ∧
    (∀ i, r = .rxwin i →
      if s.phase ≠ .idle ∧ (s.op = .copyDl ∨ s.op = .copyResp) then
        ∃ b : Byte, step s = .next
          { s with inputs := rest, reply := some ⟨false, some (0#24 ++ b)⟩, draws := s.draws + 1 }
      else s.answersRead rest (0#24 ++ s.byteAt .rxwin i.toNat)))

/-- The interrupt output is DONE and IRQ_EN: a completion with IRQ_EN raises it, and W1C of DONE, IRQ_EN = 0 and the
reset event lower it (R49, R354). -/
def Obligations.InterruptIsDoneAndEnabled : Prop :=
  (∀ s : State, s.irq = (s.done && s.irqEn)) ∧
  (∀ (s : State) (res : Res) (rcode count : Byte) (cls : Bool), s.irqEn = true →
    (s.complete res rcode count cls).irq = true) ∧
  (∀ (s t : State) (w : Word) (rest : List Event), step s = .next t →
    (s.inputs = .write ⟨0x004#10, w⟩ :: rest → w.getLsbD 1 = true → t.irq = false) ∧
    (s.inputs = .write ⟨0x00C#10, w⟩ :: rest → t.irq = (s.done && w.getLsbD 0)) ∧
    (s.inputs = .reset :: rest → t.irq = false))

/-- ERR_BUSY stays 1 until a write of 1 to its bit or the reset event (R351). -/
def Obligations.ErrBusyIsSticky : Prop :=
  ∀ s t : State, step s = .next t → s.errBusy = true → s.nextEvent ≠ some .reset →
    (∀ w : Word, s.nextEvent = some (.write ⟨0x004#10, w⟩) → w.getLsbD 2 = false) → t.errBusy = true

/-- RESULT changes only in a step that ends with the completion step, in phase IDLE with DONE = 1, or in the reset
event (R34, R346). -/
def Obligations.ResultChangesOnlyAtCompletion : Prop :=
  ∀ s t : State, step s = .next t → t.result ≠ s.result → s.nextEvent ≠ some .reset →
    t.phase = .idle ∧ t.done = true

/-- An operation that ends, ends with DONE = 1 and the wake line high (R346). -/
def Obligations.CompletionLeavesTheLineIdle : Prop :=
  ∀ s t : State, s.Inv → step s = .next t → s.busy = true → t.busy = false → s.nextEvent ≠ some .reset →
    t.done = true ∧ t.wake = true ∧ t.result.res ≠ .none

/-- The reset values of R381, read over the bus at the state after reset, and loaded by the reset event from any state,
which abandons the operation and leaves the channel's bytes (R381, R384, R390; one atomic step, log 18). -/
def Obligations.ResetRegisterValues : Prop :=
  (State.reset.phase = .idle ∧ State.reset.wake = true ∧ State.reset.irq = false ∧
   State.reset.txValid = false ∧ State.reset.rxReady = false ∧
   State.reset.done = false ∧ State.reset.errBusy = false ∧ State.reset.busy = false ∧
   State.reset.readValue .result = 0x00000000#32 ∧ State.reset.readValue .ctrl = 0x00000000#32 ∧
   State.reset.readValue .ackTimeout = 0x00000BB8#32 ∧ State.reset.readValue .retryDelay = 0x0000EA60#32 ∧
   State.reset.readValue .maxAttempts = 0x00000003#32 ∧ State.reset.readValue .pollTimeout = 0x00000BB8#32 ∧
   State.reset.readValue .crcAcc = 0x00000000#32 ∧ State.reset.readValue .dlLen = 0x00000000#32 ∧
   State.reset.readValue .respLen = 0x00000000#32 ∧ State.reset.readValue .frameLen = 0x00000000#32 ∧
   State.reset.readValue .config2 = 0x000003E8#32) ∧
  (∀ (s t : State) (rest : List Event), s.inputs = .reset :: rest → step s = .next t →
    t.phase = .idle ∧ t.busy = false ∧ t.done = false ∧ t.errBusy = false ∧
    t.result = ⟨.none, false, 0#8, 0#8, 0#8⟩ ∧ t.wake = true ∧ t.irqEn = false ∧
    t.ackTimeout = 3000#24 ∧ t.retryDelay = 60000#24 ∧ t.maxAttempts = 3#8 ∧ t.pollTimeout = 3000#24 ∧
    t.crcAcc = 0#16 ∧ t.dlLen = 0#7 ∧ t.respLen = 0#7 ∧ t.frameLen = 0#7 ∧
    t.chanRx = s.chanRx ∧ t.chanTx = s.chanTx ∧ t.wire = s.wire ∧ t.params = s.params ∧ t.inputs = rest)

/-! ### Rules of the whole machine -/

/-- A tick outside the six counting phases has no effect. In a delay it lowers the timer and nothing else, and the tick
that makes the timer 0 ends the delay (the end of a poll sleep is WaitDlFailedPollSleeps). In a read stage the enabled
takes come first: a stage still short of bytes counts the tick, and a stage that they complete does what the core's own
takes do and does not count it, whatever the timer (R224, R225, R231, R237, R238, R263; the staging is log 12). -/
def Obligations.TicksCountInSixPhasesOnly : Prop :=
  ∀ (s : State) (rest : List Event), s.inputs = .tick :: rest →
    (s.phase ≠ .txSettle1 → s.phase ≠ .txSettle2 → s.phase ≠ .retryWait → s.phase ≠ .pollSleep →
      s.phase ≠ .rxHdr → s.phase ≠ .rxBody → step s = .next { s with inputs := rest }) ∧
    (s.phase = .txSettle1 ∨ s.phase = .txSettle2 ∨ s.phase = .retryWait ∨ s.phase = .pollSleep → s.timer ≠ 1#24 →
      step s = .next { s with timer := s.timer - 1#24, inputs := rest }) ∧
    (s.phase = .txSettle1 → s.timer = 1#24 → s.frameLen ≠ 0#7 →
      step s = .next { s with timer := 0#24, phase := .txBytes, idx := 0#7, inputs := rest }) ∧
    (s.phase = .txSettle2 → s.timer = 1#24 → s.op = .send →
      step s = .next { s with
        timer := 0#24, wake := true, phase := .idle, done := true
        result := ⟨.ok, false, 0#8, 1#8, 0x02#8⟩, inputs := rest }) ∧
    (s.phase = .txSettle2 → s.timer = 1#24 → s.op = .sendAck → s.ackTimeout ≠ 0#24 →
      step s = .next { s with
        timer := s.ackTimeout, wake := true, phase := .rxHdr, taken := 0#7, need := 3#7, inputs := rest }) ∧
    (s.phase = .retryWait → s.timer = 1#24 →
      step s = .next { s with
        timer := 20#24, wake := false, phase := .txSettle1, attempt := s.attempt + 1#8, inputs := rest }) ∧
    (s.phase.receiving = true → s.timer ≠ 1#24 → s.chanRx.length < s.need.toNat → ∃ m : Memory,
      step s = .next { s with
        timer := s.timer - 1#24, chanRx := [], stg := m
        taken := s.taken + BitVec.ofNat 7 s.chanRx.length, need := s.need - BitVec.ofNat 7 s.chanRx.length
        inputs := rest } ∧
      (s.taken.toNat + s.chanRx.length ≤ 64 → ∀ i : Nat, m.read i =
        if s.taken.toNat ≤ i ∧ i < s.taken.toNat + s.chanRx.length then s.chanRx[i - s.taken.toNat]?
        else s.stg.read i)) ∧
    (s.phase.receiving = true → s.need ≠ 0#7 → s.need.toNat ≤ s.chanRx.length →
      (∃ u : State, Sys2Proof.core.run s.need.toNat { s with inputs := [] } = .next u ∧
        step s = .next { u with inputs := rest }) ∧
      (s.phase = .rxBody → s.op = .poll → ∃ t : State,
        step s = .next t ∧ t.phase = .idle ∧ t.done = true ∧ t.chanRx = s.chanRx.drop s.need.toNat ∧
        (t.result.res = .ok ∨ t.result.res = .crcMismatch)))

/-- While an operation runs, nothing changes its operands, its parameters or the frame it transmits (R88, R95, R268, R397).
RXWIN does not change either: COPY_DL and COPY_RESP, its only writers, write it in the step of their CMD write
(R15, R41, R45, R302 as log 3 reads them). -/
def Obligations.OperandsAreStableWhileBusy : Prop :=
  ∀ s t : State, step s = .next t → s.busy = true → s.nextEvent ≠ some .reset →
    t.op = s.op ∧ t.code = s.code ∧ t.len = s.len ∧ t.txbuf = s.txbuf ∧
    t.ackTimeout = s.ackTimeout ∧ t.retryDelay = s.retryDelay ∧ t.maxAttempts = s.maxAttempts ∧
    t.pollTimeout = s.pollTimeout ∧ t.txframe = s.txframe ∧ t.frameLen = s.frameLen ∧ t.rxwin = s.rxwin

/-- The slots change only when POLL or WAIT_DL completes a body stage, or at the reset event (R43, R45, R267, R293). -/
def Obligations.SlotsAreWrittenByThePollProcedureOnly : Prop :=
  ∀ s t : State, step s = .next t → s.nextEvent ≠ some .reset →
    (t.dlslot = s.dlslot ∧ t.dlLen = s.dlLen ∧ t.respslot = s.respslot ∧ t.respLen = s.respLen) ∨
    (s.phase = .rxBody ∧ (s.op = .poll ∨ s.op = .waitDl))

/-- RXWIN changes only when a COPY_DL or COPY_RESP command is accepted, or at the reset event (R45, R302). That the COPY
step falls into the step of its CMD write, while the block is not busy, is the reading of R15 and R41 in log 3. -/
def Obligations.TheWindowIsASnapshot : Prop :=
  ∀ s t : State, step s = .next t → t.rxwin ≠ s.rxwin → s.nextEvent ≠ some .reset →
    s.busy = false ∧ ∃ b : BusWrite, s.nextEvent = some (.write b) ∧
      ((∃ code n, decode b = .ok (.copyDl code n)) ∨ (∃ code n, decode b = .ok (.copyResp code n)))

/-- The wire gets bytes only from TXFRAME at the running index in TX_BYTES, one for each accepted handshake, and in
order (R46, R84, R97, R222). -/
def Obligations.OnlyFrameBytesReachTheWire : Prop :=
  ∀ s t : State, step s = .next t →
    (t.wire ++ t.chanTx = s.wire ++ s.chanTx) ∨
    (s.phase = .txBytes ∧ s.nextEvent = some .accept ∧ t.idx = s.idx + 1#7 ∧
      t.wire ++ t.chanTx = s.wire ++ s.chanTx ++ [s.byteAt .txframe s.idx.toNat])

/-- Unspecified contents stay unobservable through operations, of a host that loads TXBUF before each BUILD, SEND and
SEND_ACK (R382, R385; without that duty see log 17). Two states that differ only in their unspecified contents, which the
reset count `epoch` selects (log 7), and in the last bus answer step to states that differ only there, and their answers
differ only after a direct read of an unwritten TXBUF, TXFRAME or RXWIN entry. The byte presented in TX_BYTES has been
written. -/
def Obligations.UnspecifiedBytesReachNoOperation : Prop :=
  (∀ (s t : State) (e : Nat) (r : Option BusReply), s.Inv → s.payloadLoaded → step s = .next t →
    ∃ (k : Nat) (q : Option BusReply),
      step { s with epoch := e, reply := r } = .next { t with epoch := k, reply := q } ∧
      (r = s.reply → q = t.reply ∨ s.readsUnwritten)) ∧
  (∀ s : State, s.Inv → s.phase = .txBytes → s.txframe.read s.idx.toNat = some s.txData)

/-- The channel's received bytes leave it oldest first and only in a read stage, and every arrival goes to its end and
changes nothing else (R46, R51, R97). -/
def Obligations.ReceivedBytesAreTakenInOrder : Prop :=
  (∀ s t : State, step s = .next t →
    t.chanRx = s.chanRx ∨
    (∃ b, s.nextEvent = some (.arrive b) ∧ t.chanRx = s.chanRx ++ [b]) ∨
    (s.phase.receiving = true ∧ ∃ k : Nat, k ≤ s.need.toNat ∧ t.chanRx = s.chanRx.drop k)) ∧
  (∀ (s : State) (b : Byte) (rest : List Event), s.inputs = .arrive b :: rest →
    step s = .next { s with chanRx := s.chanRx ++ [b], inputs := rest })

/-! ### Invariants -/

/-- Every step keeps the buffers' canonical form, which is the model's (R45; log 7). -/
def Obligations.StepKeepsBuffersCanonical : Prop :=
  ∀ s t : State, s.buffersWf = true → step s = .next t → t.buffersWf = true

/-- The invariant and the buffers' canonical form hold at reset, at the values of R381 and of log 7, 8 and 10. -/
def Obligations.ResetMeetsTheInvariant : Prop := State.reset.Inv ∧ State.reset.buffersWf = true

/-- Every step keeps the invariant: operations at their own waiting points, the wake line, running timers, frame lengths,
no unspecified byte below a length register, bounded attempts and budget (R41, R43, R47, R382). The canonical form is the
model's (log 7), internal phases are never seen between steps as log 3 reads R15, and `st.taken`, `st.need` and `st.stg`
inside a read stage are as log 12 has them. -/
def Obligations.StepKeepsTheInvariant : Prop :=
  ∀ s t : State, s.Inv → step s = .next t → t.Inv
end

