-- ==== Sys2Proof/Laws/State.lean ====
section
/-! SUPPORT. One lemma per field per named update of the state, true by rfl, so that no later proof unfolds a record
update. -/

namespace Sys2Proof.Machine

variable (s : State)

/-! ### answer -/

@[simp] theorem State.answer_done (r : BusReply) : (s.answer r).done = s.done := rfl
@[simp] theorem State.answer_errBusy (r : BusReply) : (s.answer r).errBusy = s.errBusy := rfl
@[simp] theorem State.answer_result (r : BusReply) : (s.answer r).result = s.result := rfl
@[simp] theorem State.answer_irqEn (r : BusReply) : (s.answer r).irqEn = s.irqEn := rfl
@[simp] theorem State.answer_ackTimeout (r : BusReply) : (s.answer r).ackTimeout = s.ackTimeout := rfl
@[simp] theorem State.answer_retryDelay (r : BusReply) : (s.answer r).retryDelay = s.retryDelay := rfl
@[simp] theorem State.answer_maxAttempts (r : BusReply) : (s.answer r).maxAttempts = s.maxAttempts := rfl
@[simp] theorem State.answer_pollTimeout (r : BusReply) : (s.answer r).pollTimeout = s.pollTimeout := rfl
@[simp] theorem State.answer_crcAcc (r : BusReply) : (s.answer r).crcAcc = s.crcAcc := rfl
@[simp] theorem State.answer_dlLen (r : BusReply) : (s.answer r).dlLen = s.dlLen := rfl
@[simp] theorem State.answer_respLen (r : BusReply) : (s.answer r).respLen = s.respLen := rfl
@[simp] theorem State.answer_frameLen (r : BusReply) : (s.answer r).frameLen = s.frameLen := rfl
@[simp] theorem State.answer_txbuf (r : BusReply) : (s.answer r).txbuf = s.txbuf := rfl
@[simp] theorem State.answer_txframe (r : BusReply) : (s.answer r).txframe = s.txframe := rfl
@[simp] theorem State.answer_rxwin (r : BusReply) : (s.answer r).rxwin = s.rxwin := rfl
@[simp] theorem State.answer_dlslot (r : BusReply) : (s.answer r).dlslot = s.dlslot := rfl
@[simp] theorem State.answer_respslot (r : BusReply) : (s.answer r).respslot = s.respslot := rfl
@[simp] theorem State.answer_stg (r : BusReply) : (s.answer r).stg = s.stg := rfl
@[simp] theorem State.answer_phase (r : BusReply) : (s.answer r).phase = s.phase := rfl
@[simp] theorem State.answer_op (r : BusReply) : (s.answer r).op = s.op := rfl
@[simp] theorem State.answer_code (r : BusReply) : (s.answer r).code = s.code := rfl
@[simp] theorem State.answer_len (r : BusReply) : (s.answer r).len = s.len := rfl
@[simp] theorem State.answer_attempt (r : BusReply) : (s.answer r).attempt = s.attempt := rfl
@[simp] theorem State.answer_pollsLeft (r : BusReply) : (s.answer r).pollsLeft = s.pollsLeft := rfl
@[simp] theorem State.answer_polls (r : BusReply) : (s.answer r).polls = s.polls := rfl
@[simp] theorem State.answer_timer (r : BusReply) : (s.answer r).timer = s.timer := rfl
@[simp] theorem State.answer_idx (r : BusReply) : (s.answer r).idx = s.idx := rfl
@[simp] theorem State.answer_need (r : BusReply) : (s.answer r).need = s.need := rfl
@[simp] theorem State.answer_taken (r : BusReply) : (s.answer r).taken = s.taken := rfl
@[simp] theorem State.answer_rx (r : BusReply) : (s.answer r).rx = s.rx := rfl
@[simp] theorem State.answer_wake (r : BusReply) : (s.answer r).wake = s.wake := rfl
@[simp] theorem State.answer_reply (r : BusReply) : (s.answer r).reply = some r := rfl
@[simp] theorem State.answer_chanRx (r : BusReply) : (s.answer r).chanRx = s.chanRx := rfl
@[simp] theorem State.answer_chanTx (r : BusReply) : (s.answer r).chanTx = s.chanTx := rfl
@[simp] theorem State.answer_wire (r : BusReply) : (s.answer r).wire = s.wire := rfl
@[simp] theorem State.answer_inputs (r : BusReply) : (s.answer r).inputs = s.inputs := rfl
@[simp] theorem State.answer_params (r : BusReply) : (s.answer r).params = s.params := rfl
@[simp] theorem State.answer_draws (r : BusReply) : (s.answer r).draws = s.draws := rfl
@[simp] theorem State.answer_epoch (r : BusReply) : (s.answer r).epoch = s.epoch := rfl

/-! ### setWake -/

@[simp] theorem State.setWake_done (level : Bool) : (s.setWake level).done = s.done := rfl
@[simp] theorem State.setWake_errBusy (level : Bool) : (s.setWake level).errBusy = s.errBusy := rfl
@[simp] theorem State.setWake_result (level : Bool) : (s.setWake level).result = s.result := rfl
@[simp] theorem State.setWake_irqEn (level : Bool) : (s.setWake level).irqEn = s.irqEn := rfl
@[simp] theorem State.setWake_ackTimeout (level : Bool) : (s.setWake level).ackTimeout = s.ackTimeout := rfl
@[simp] theorem State.setWake_retryDelay (level : Bool) : (s.setWake level).retryDelay = s.retryDelay := rfl
@[simp] theorem State.setWake_maxAttempts (level : Bool) : (s.setWake level).maxAttempts = s.maxAttempts := rfl
@[simp] theorem State.setWake_pollTimeout (level : Bool) : (s.setWake level).pollTimeout = s.pollTimeout := rfl
@[simp] theorem State.setWake_crcAcc (level : Bool) : (s.setWake level).crcAcc = s.crcAcc := rfl
@[simp] theorem State.setWake_dlLen (level : Bool) : (s.setWake level).dlLen = s.dlLen := rfl
@[simp] theorem State.setWake_respLen (level : Bool) : (s.setWake level).respLen = s.respLen := rfl
@[simp] theorem State.setWake_frameLen (level : Bool) : (s.setWake level).frameLen = s.frameLen := rfl
@[simp] theorem State.setWake_txbuf (level : Bool) : (s.setWake level).txbuf = s.txbuf := rfl
@[simp] theorem State.setWake_txframe (level : Bool) : (s.setWake level).txframe = s.txframe := rfl
@[simp] theorem State.setWake_rxwin (level : Bool) : (s.setWake level).rxwin = s.rxwin := rfl
@[simp] theorem State.setWake_dlslot (level : Bool) : (s.setWake level).dlslot = s.dlslot := rfl
@[simp] theorem State.setWake_respslot (level : Bool) : (s.setWake level).respslot = s.respslot := rfl
@[simp] theorem State.setWake_stg (level : Bool) : (s.setWake level).stg = s.stg := rfl
@[simp] theorem State.setWake_phase (level : Bool) : (s.setWake level).phase = s.phase := rfl
@[simp] theorem State.setWake_op (level : Bool) : (s.setWake level).op = s.op := rfl
@[simp] theorem State.setWake_code (level : Bool) : (s.setWake level).code = s.code := rfl
@[simp] theorem State.setWake_len (level : Bool) : (s.setWake level).len = s.len := rfl
@[simp] theorem State.setWake_attempt (level : Bool) : (s.setWake level).attempt = s.attempt := rfl
@[simp] theorem State.setWake_pollsLeft (level : Bool) : (s.setWake level).pollsLeft = s.pollsLeft := rfl
@[simp] theorem State.setWake_polls (level : Bool) : (s.setWake level).polls = s.polls := rfl
@[simp] theorem State.setWake_timer (level : Bool) : (s.setWake level).timer = s.timer := rfl
@[simp] theorem State.setWake_idx (level : Bool) : (s.setWake level).idx = s.idx := rfl
@[simp] theorem State.setWake_need (level : Bool) : (s.setWake level).need = s.need := rfl
@[simp] theorem State.setWake_taken (level : Bool) : (s.setWake level).taken = s.taken := rfl
@[simp] theorem State.setWake_rx (level : Bool) : (s.setWake level).rx = s.rx := rfl
@[simp] theorem State.setWake_wake (level : Bool) : (s.setWake level).wake = level := rfl
@[simp] theorem State.setWake_reply (level : Bool) : (s.setWake level).reply = s.reply := rfl
@[simp] theorem State.setWake_chanRx (level : Bool) : (s.setWake level).chanRx = s.chanRx := rfl
@[simp] theorem State.setWake_chanTx (level : Bool) : (s.setWake level).chanTx = s.chanTx := rfl
@[simp] theorem State.setWake_wire (level : Bool) : (s.setWake level).wire = s.wire := rfl
@[simp] theorem State.setWake_inputs (level : Bool) : (s.setWake level).inputs = s.inputs := rfl
@[simp] theorem State.setWake_params (level : Bool) : (s.setWake level).params = s.params := rfl
@[simp] theorem State.setWake_draws (level : Bool) : (s.setWake level).draws = s.draws := rfl
@[simp] theorem State.setWake_epoch (level : Bool) : (s.setWake level).epoch = s.epoch := rfl

/-! ### enter -/

@[simp] theorem State.enter_done (p : Phase) : (s.enter p).done = s.done := rfl
@[simp] theorem State.enter_errBusy (p : Phase) : (s.enter p).errBusy = s.errBusy := rfl
@[simp] theorem State.enter_result (p : Phase) : (s.enter p).result = s.result := rfl
@[simp] theorem State.enter_irqEn (p : Phase) : (s.enter p).irqEn = s.irqEn := rfl
@[simp] theorem State.enter_ackTimeout (p : Phase) : (s.enter p).ackTimeout = s.ackTimeout := rfl
@[simp] theorem State.enter_retryDelay (p : Phase) : (s.enter p).retryDelay = s.retryDelay := rfl
@[simp] theorem State.enter_maxAttempts (p : Phase) : (s.enter p).maxAttempts = s.maxAttempts := rfl
@[simp] theorem State.enter_pollTimeout (p : Phase) : (s.enter p).pollTimeout = s.pollTimeout := rfl
@[simp] theorem State.enter_crcAcc (p : Phase) : (s.enter p).crcAcc = s.crcAcc := rfl
@[simp] theorem State.enter_dlLen (p : Phase) : (s.enter p).dlLen = s.dlLen := rfl
@[simp] theorem State.enter_respLen (p : Phase) : (s.enter p).respLen = s.respLen := rfl
@[simp] theorem State.enter_frameLen (p : Phase) : (s.enter p).frameLen = s.frameLen := rfl
@[simp] theorem State.enter_txbuf (p : Phase) : (s.enter p).txbuf = s.txbuf := rfl
@[simp] theorem State.enter_txframe (p : Phase) : (s.enter p).txframe = s.txframe := rfl
@[simp] theorem State.enter_rxwin (p : Phase) : (s.enter p).rxwin = s.rxwin := rfl
@[simp] theorem State.enter_dlslot (p : Phase) : (s.enter p).dlslot = s.dlslot := rfl
@[simp] theorem State.enter_respslot (p : Phase) : (s.enter p).respslot = s.respslot := rfl
@[simp] theorem State.enter_stg (p : Phase) : (s.enter p).stg = s.stg := rfl
@[simp] theorem State.enter_phase (p : Phase) : (s.enter p).phase = p := rfl
@[simp] theorem State.enter_op (p : Phase) : (s.enter p).op = s.op := rfl
@[simp] theorem State.enter_code (p : Phase) : (s.enter p).code = s.code := rfl
@[simp] theorem State.enter_len (p : Phase) : (s.enter p).len = s.len := rfl
@[simp] theorem State.enter_attempt (p : Phase) : (s.enter p).attempt = s.attempt := rfl
@[simp] theorem State.enter_pollsLeft (p : Phase) : (s.enter p).pollsLeft = s.pollsLeft := rfl
@[simp] theorem State.enter_polls (p : Phase) : (s.enter p).polls = s.polls := rfl
@[simp] theorem State.enter_timer (p : Phase) : (s.enter p).timer = s.timer := rfl
@[simp] theorem State.enter_idx (p : Phase) : (s.enter p).idx = s.idx := rfl
@[simp] theorem State.enter_need (p : Phase) : (s.enter p).need = s.need := rfl
@[simp] theorem State.enter_taken (p : Phase) : (s.enter p).taken = s.taken := rfl
@[simp] theorem State.enter_rx (p : Phase) : (s.enter p).rx = s.rx := rfl
@[simp] theorem State.enter_wake (p : Phase) : (s.enter p).wake = s.wake := rfl
@[simp] theorem State.enter_reply (p : Phase) : (s.enter p).reply = s.reply := rfl
@[simp] theorem State.enter_chanRx (p : Phase) : (s.enter p).chanRx = s.chanRx := rfl
@[simp] theorem State.enter_chanTx (p : Phase) : (s.enter p).chanTx = s.chanTx := rfl
@[simp] theorem State.enter_wire (p : Phase) : (s.enter p).wire = s.wire := rfl
@[simp] theorem State.enter_inputs (p : Phase) : (s.enter p).inputs = s.inputs := rfl
@[simp] theorem State.enter_params (p : Phase) : (s.enter p).params = s.params := rfl
@[simp] theorem State.enter_draws (p : Phase) : (s.enter p).draws = s.draws := rfl
@[simp] theorem State.enter_epoch (p : Phase) : (s.enter p).epoch = s.epoch := rfl

/-! ### wait -/

@[simp] theorem State.wait_done (p : Phase) (n : Ticks) : (s.wait p n).done = s.done := rfl
@[simp] theorem State.wait_errBusy (p : Phase) (n : Ticks) : (s.wait p n).errBusy = s.errBusy := rfl
@[simp] theorem State.wait_result (p : Phase) (n : Ticks) : (s.wait p n).result = s.result := rfl
@[simp] theorem State.wait_irqEn (p : Phase) (n : Ticks) : (s.wait p n).irqEn = s.irqEn := rfl
@[simp] theorem State.wait_ackTimeout (p : Phase) (n : Ticks) : (s.wait p n).ackTimeout = s.ackTimeout := rfl
@[simp] theorem State.wait_retryDelay (p : Phase) (n : Ticks) : (s.wait p n).retryDelay = s.retryDelay := rfl
@[simp] theorem State.wait_maxAttempts (p : Phase) (n : Ticks) : (s.wait p n).maxAttempts = s.maxAttempts := rfl
@[simp] theorem State.wait_pollTimeout (p : Phase) (n : Ticks) : (s.wait p n).pollTimeout = s.pollTimeout := rfl
@[simp] theorem State.wait_crcAcc (p : Phase) (n : Ticks) : (s.wait p n).crcAcc = s.crcAcc := rfl
@[simp] theorem State.wait_dlLen (p : Phase) (n : Ticks) : (s.wait p n).dlLen = s.dlLen := rfl
@[simp] theorem State.wait_respLen (p : Phase) (n : Ticks) : (s.wait p n).respLen = s.respLen := rfl
@[simp] theorem State.wait_frameLen (p : Phase) (n : Ticks) : (s.wait p n).frameLen = s.frameLen := rfl
@[simp] theorem State.wait_txbuf (p : Phase) (n : Ticks) : (s.wait p n).txbuf = s.txbuf := rfl
@[simp] theorem State.wait_txframe (p : Phase) (n : Ticks) : (s.wait p n).txframe = s.txframe := rfl
@[simp] theorem State.wait_rxwin (p : Phase) (n : Ticks) : (s.wait p n).rxwin = s.rxwin := rfl
@[simp] theorem State.wait_dlslot (p : Phase) (n : Ticks) : (s.wait p n).dlslot = s.dlslot := rfl
@[simp] theorem State.wait_respslot (p : Phase) (n : Ticks) : (s.wait p n).respslot = s.respslot := rfl
@[simp] theorem State.wait_stg (p : Phase) (n : Ticks) : (s.wait p n).stg = s.stg := rfl
@[simp] theorem State.wait_phase (p : Phase) (n : Ticks) : (s.wait p n).phase = p := rfl
@[simp] theorem State.wait_op (p : Phase) (n : Ticks) : (s.wait p n).op = s.op := rfl
@[simp] theorem State.wait_code (p : Phase) (n : Ticks) : (s.wait p n).code = s.code := rfl
@[simp] theorem State.wait_len (p : Phase) (n : Ticks) : (s.wait p n).len = s.len := rfl
@[simp] theorem State.wait_attempt (p : Phase) (n : Ticks) : (s.wait p n).attempt = s.attempt := rfl
@[simp] theorem State.wait_pollsLeft (p : Phase) (n : Ticks) : (s.wait p n).pollsLeft = s.pollsLeft := rfl
@[simp] theorem State.wait_polls (p : Phase) (n : Ticks) : (s.wait p n).polls = s.polls := rfl
@[simp] theorem State.wait_timer (p : Phase) (n : Ticks) : (s.wait p n).timer = n := rfl
@[simp] theorem State.wait_idx (p : Phase) (n : Ticks) : (s.wait p n).idx = s.idx := rfl
@[simp] theorem State.wait_need (p : Phase) (n : Ticks) : (s.wait p n).need = s.need := rfl
@[simp] theorem State.wait_taken (p : Phase) (n : Ticks) : (s.wait p n).taken = s.taken := rfl
@[simp] theorem State.wait_rx (p : Phase) (n : Ticks) : (s.wait p n).rx = s.rx := rfl
@[simp] theorem State.wait_wake (p : Phase) (n : Ticks) : (s.wait p n).wake = s.wake := rfl
@[simp] theorem State.wait_reply (p : Phase) (n : Ticks) : (s.wait p n).reply = s.reply := rfl
@[simp] theorem State.wait_chanRx (p : Phase) (n : Ticks) : (s.wait p n).chanRx = s.chanRx := rfl
@[simp] theorem State.wait_chanTx (p : Phase) (n : Ticks) : (s.wait p n).chanTx = s.chanTx := rfl
@[simp] theorem State.wait_wire (p : Phase) (n : Ticks) : (s.wait p n).wire = s.wire := rfl
@[simp] theorem State.wait_inputs (p : Phase) (n : Ticks) : (s.wait p n).inputs = s.inputs := rfl
@[simp] theorem State.wait_params (p : Phase) (n : Ticks) : (s.wait p n).params = s.params := rfl
@[simp] theorem State.wait_draws (p : Phase) (n : Ticks) : (s.wait p n).draws = s.draws := rfl
@[simp] theorem State.wait_epoch (p : Phase) (n : Ticks) : (s.wait p n).epoch = s.epoch := rfl

/-! ### startStage -/

@[simp] theorem State.startStage_done (p : Phase) (n : Len) (t : Ticks) : (s.startStage p n t).done = s.done := rfl
@[simp] theorem State.startStage_errBusy (p : Phase) (n : Len) (t : Ticks) : (s.startStage p n t).errBusy = s.errBusy := rfl
@[simp] theorem State.startStage_result (p : Phase) (n : Len) (t : Ticks) : (s.startStage p n t).result = s.result := rfl
@[simp] theorem State.startStage_irqEn (p : Phase) (n : Len) (t : Ticks) : (s.startStage p n t).irqEn = s.irqEn := rfl
@[simp] theorem State.startStage_ackTimeout (p : Phase) (n : Len) (t : Ticks) : (s.startStage p n t).ackTimeout = s.ackTimeout := rfl
@[simp] theorem State.startStage_retryDelay (p : Phase) (n : Len) (t : Ticks) : (s.startStage p n t).retryDelay = s.retryDelay := rfl
@[simp] theorem State.startStage_maxAttempts (p : Phase) (n : Len) (t : Ticks) : (s.startStage p n t).maxAttempts = s.maxAttempts := rfl
@[simp] theorem State.startStage_pollTimeout (p : Phase) (n : Len) (t : Ticks) : (s.startStage p n t).pollTimeout = s.pollTimeout := rfl
@[simp] theorem State.startStage_crcAcc (p : Phase) (n : Len) (t : Ticks) : (s.startStage p n t).crcAcc = s.crcAcc := rfl
@[simp] theorem State.startStage_dlLen (p : Phase) (n : Len) (t : Ticks) : (s.startStage p n t).dlLen = s.dlLen := rfl
@[simp] theorem State.startStage_respLen (p : Phase) (n : Len) (t : Ticks) : (s.startStage p n t).respLen = s.respLen := rfl
@[simp] theorem State.startStage_frameLen (p : Phase) (n : Len) (t : Ticks) : (s.startStage p n t).frameLen = s.frameLen := rfl
@[simp] theorem State.startStage_txbuf (p : Phase) (n : Len) (t : Ticks) : (s.startStage p n t).txbuf = s.txbuf := rfl
@[simp] theorem State.startStage_txframe (p : Phase) (n : Len) (t : Ticks) : (s.startStage p n t).txframe = s.txframe := rfl
@[simp] theorem State.startStage_rxwin (p : Phase) (n : Len) (t : Ticks) : (s.startStage p n t).rxwin = s.rxwin := rfl
@[simp] theorem State.startStage_dlslot (p : Phase) (n : Len) (t : Ticks) : (s.startStage p n t).dlslot = s.dlslot := rfl
@[simp] theorem State.startStage_respslot (p : Phase) (n : Len) (t : Ticks) : (s.startStage p n t).respslot = s.respslot := rfl
@[simp] theorem State.startStage_stg (p : Phase) (n : Len) (t : Ticks) : (s.startStage p n t).stg = s.stg := rfl
@[simp] theorem State.startStage_phase (p : Phase) (n : Len) (t : Ticks) : (s.startStage p n t).phase = p := rfl
@[simp] theorem State.startStage_op (p : Phase) (n : Len) (t : Ticks) : (s.startStage p n t).op = s.op := rfl
@[simp] theorem State.startStage_code (p : Phase) (n : Len) (t : Ticks) : (s.startStage p n t).code = s.code := rfl
@[simp] theorem State.startStage_len (p : Phase) (n : Len) (t : Ticks) : (s.startStage p n t).len = s.len := rfl
@[simp] theorem State.startStage_attempt (p : Phase) (n : Len) (t : Ticks) : (s.startStage p n t).attempt = s.attempt := rfl
@[simp] theorem State.startStage_pollsLeft (p : Phase) (n : Len) (t : Ticks) : (s.startStage p n t).pollsLeft = s.pollsLeft := rfl
@[simp] theorem State.startStage_polls (p : Phase) (n : Len) (t : Ticks) : (s.startStage p n t).polls = s.polls := rfl
@[simp] theorem State.startStage_timer (p : Phase) (n : Len) (t : Ticks) : (s.startStage p n t).timer = t := rfl
@[simp] theorem State.startStage_idx (p : Phase) (n : Len) (t : Ticks) : (s.startStage p n t).idx = s.idx := rfl
@[simp] theorem State.startStage_need (p : Phase) (n : Len) (t : Ticks) : (s.startStage p n t).need = n := rfl
@[simp] theorem State.startStage_taken (p : Phase) (n : Len) (t : Ticks) : (s.startStage p n t).taken = s.taken := rfl
@[simp] theorem State.startStage_rx (p : Phase) (n : Len) (t : Ticks) : (s.startStage p n t).rx = s.rx := rfl
@[simp] theorem State.startStage_wake (p : Phase) (n : Len) (t : Ticks) : (s.startStage p n t).wake = s.wake := rfl
@[simp] theorem State.startStage_reply (p : Phase) (n : Len) (t : Ticks) : (s.startStage p n t).reply = s.reply := rfl
@[simp] theorem State.startStage_chanRx (p : Phase) (n : Len) (t : Ticks) : (s.startStage p n t).chanRx = s.chanRx := rfl
@[simp] theorem State.startStage_chanTx (p : Phase) (n : Len) (t : Ticks) : (s.startStage p n t).chanTx = s.chanTx := rfl
@[simp] theorem State.startStage_wire (p : Phase) (n : Len) (t : Ticks) : (s.startStage p n t).wire = s.wire := rfl
@[simp] theorem State.startStage_inputs (p : Phase) (n : Len) (t : Ticks) : (s.startStage p n t).inputs = s.inputs := rfl
@[simp] theorem State.startStage_params (p : Phase) (n : Len) (t : Ticks) : (s.startStage p n t).params = s.params := rfl
@[simp] theorem State.startStage_draws (p : Phase) (n : Len) (t : Ticks) : (s.startStage p n t).draws = s.draws := rfl
@[simp] theorem State.startStage_epoch (p : Phase) (n : Len) (t : Ticks) : (s.startStage p n t).epoch = s.epoch := rfl

/-! ### refuse -/

@[simp] theorem State.refuse_done : (s.refuse).done = s.done := rfl
@[simp] theorem State.refuse_errBusy : (s.refuse).errBusy = true := rfl
@[simp] theorem State.refuse_result : (s.refuse).result = s.result := rfl
@[simp] theorem State.refuse_irqEn : (s.refuse).irqEn = s.irqEn := rfl
@[simp] theorem State.refuse_ackTimeout : (s.refuse).ackTimeout = s.ackTimeout := rfl
@[simp] theorem State.refuse_retryDelay : (s.refuse).retryDelay = s.retryDelay := rfl
@[simp] theorem State.refuse_maxAttempts : (s.refuse).maxAttempts = s.maxAttempts := rfl
@[simp] theorem State.refuse_pollTimeout : (s.refuse).pollTimeout = s.pollTimeout := rfl
@[simp] theorem State.refuse_crcAcc : (s.refuse).crcAcc = s.crcAcc := rfl
@[simp] theorem State.refuse_dlLen : (s.refuse).dlLen = s.dlLen := rfl
@[simp] theorem State.refuse_respLen : (s.refuse).respLen = s.respLen := rfl
@[simp] theorem State.refuse_frameLen : (s.refuse).frameLen = s.frameLen := rfl
@[simp] theorem State.refuse_txbuf : (s.refuse).txbuf = s.txbuf := rfl
@[simp] theorem State.refuse_txframe : (s.refuse).txframe = s.txframe := rfl
@[simp] theorem State.refuse_rxwin : (s.refuse).rxwin = s.rxwin := rfl
@[simp] theorem State.refuse_dlslot : (s.refuse).dlslot = s.dlslot := rfl
@[simp] theorem State.refuse_respslot : (s.refuse).respslot = s.respslot := rfl
@[simp] theorem State.refuse_stg : (s.refuse).stg = s.stg := rfl
@[simp] theorem State.refuse_phase : (s.refuse).phase = s.phase := rfl
@[simp] theorem State.refuse_op : (s.refuse).op = s.op := rfl
@[simp] theorem State.refuse_code : (s.refuse).code = s.code := rfl
@[simp] theorem State.refuse_len : (s.refuse).len = s.len := rfl
@[simp] theorem State.refuse_attempt : (s.refuse).attempt = s.attempt := rfl
@[simp] theorem State.refuse_pollsLeft : (s.refuse).pollsLeft = s.pollsLeft := rfl
@[simp] theorem State.refuse_polls : (s.refuse).polls = s.polls := rfl
@[simp] theorem State.refuse_timer : (s.refuse).timer = s.timer := rfl
@[simp] theorem State.refuse_idx : (s.refuse).idx = s.idx := rfl
@[simp] theorem State.refuse_need : (s.refuse).need = s.need := rfl
@[simp] theorem State.refuse_taken : (s.refuse).taken = s.taken := rfl
@[simp] theorem State.refuse_rx : (s.refuse).rx = s.rx := rfl
@[simp] theorem State.refuse_wake : (s.refuse).wake = s.wake := rfl
@[simp] theorem State.refuse_reply : (s.refuse).reply = s.reply := rfl
@[simp] theorem State.refuse_chanRx : (s.refuse).chanRx = s.chanRx := rfl
@[simp] theorem State.refuse_chanTx : (s.refuse).chanTx = s.chanTx := rfl
@[simp] theorem State.refuse_wire : (s.refuse).wire = s.wire := rfl
@[simp] theorem State.refuse_inputs : (s.refuse).inputs = s.inputs := rfl
@[simp] theorem State.refuse_params : (s.refuse).params = s.params := rfl
@[simp] theorem State.refuse_draws : (s.refuse).draws = s.draws := rfl
@[simp] theorem State.refuse_epoch : (s.refuse).epoch = s.epoch := rfl

/-! ### accept -/

@[simp] theorem State.accept_done (op : Op) (code : Byte) (len : Nat) : (s.accept op code len).done = false := rfl
@[simp] theorem State.accept_errBusy (op : Op) (code : Byte) (len : Nat) : (s.accept op code len).errBusy = s.errBusy := rfl
@[simp] theorem State.accept_result (op : Op) (code : Byte) (len : Nat) : (s.accept op code len).result = s.result := rfl
@[simp] theorem State.accept_irqEn (op : Op) (code : Byte) (len : Nat) : (s.accept op code len).irqEn = s.irqEn := rfl
@[simp] theorem State.accept_ackTimeout (op : Op) (code : Byte) (len : Nat) : (s.accept op code len).ackTimeout = s.ackTimeout := rfl
@[simp] theorem State.accept_retryDelay (op : Op) (code : Byte) (len : Nat) : (s.accept op code len).retryDelay = s.retryDelay := rfl
@[simp] theorem State.accept_maxAttempts (op : Op) (code : Byte) (len : Nat) : (s.accept op code len).maxAttempts = s.maxAttempts := rfl
@[simp] theorem State.accept_pollTimeout (op : Op) (code : Byte) (len : Nat) : (s.accept op code len).pollTimeout = s.pollTimeout := rfl
@[simp] theorem State.accept_crcAcc (op : Op) (code : Byte) (len : Nat) : (s.accept op code len).crcAcc = s.crcAcc := rfl
@[simp] theorem State.accept_dlLen (op : Op) (code : Byte) (len : Nat) : (s.accept op code len).dlLen = s.dlLen := rfl
@[simp] theorem State.accept_respLen (op : Op) (code : Byte) (len : Nat) : (s.accept op code len).respLen = s.respLen := rfl
@[simp] theorem State.accept_frameLen (op : Op) (code : Byte) (len : Nat) : (s.accept op code len).frameLen = s.frameLen := rfl
@[simp] theorem State.accept_txbuf (op : Op) (code : Byte) (len : Nat) : (s.accept op code len).txbuf = s.txbuf := rfl
@[simp] theorem State.accept_txframe (op : Op) (code : Byte) (len : Nat) : (s.accept op code len).txframe = s.txframe := rfl
@[simp] theorem State.accept_rxwin (op : Op) (code : Byte) (len : Nat) : (s.accept op code len).rxwin = s.rxwin := rfl
@[simp] theorem State.accept_dlslot (op : Op) (code : Byte) (len : Nat) : (s.accept op code len).dlslot = s.dlslot := rfl
@[simp] theorem State.accept_respslot (op : Op) (code : Byte) (len : Nat) : (s.accept op code len).respslot = s.respslot := rfl
@[simp] theorem State.accept_stg (op : Op) (code : Byte) (len : Nat) : (s.accept op code len).stg = s.stg := rfl
@[simp] theorem State.accept_phase (op : Op) (code : Byte) (len : Nat) : (s.accept op code len).phase = s.phase := rfl
@[simp] theorem State.accept_op (op : Op) (code : Byte) (len : Nat) : (s.accept op code len).op = op := rfl
@[simp] theorem State.accept_code (op : Op) (code : Byte) (len : Nat) : (s.accept op code len).code = code := rfl
@[simp] theorem State.accept_len (op : Op) (code : Byte) (len : Nat) : (s.accept op code len).len = BitVec.ofNat 8 len := rfl
@[simp] theorem State.accept_attempt (op : Op) (code : Byte) (len : Nat) : (s.accept op code len).attempt = s.attempt := rfl
@[simp] theorem State.accept_pollsLeft (op : Op) (code : Byte) (len : Nat) : (s.accept op code len).pollsLeft = s.pollsLeft := rfl
@[simp] theorem State.accept_polls (op : Op) (code : Byte) (len : Nat) : (s.accept op code len).polls = s.polls := rfl
@[simp] theorem State.accept_timer (op : Op) (code : Byte) (len : Nat) : (s.accept op code len).timer = s.timer := rfl
@[simp] theorem State.accept_idx (op : Op) (code : Byte) (len : Nat) : (s.accept op code len).idx = s.idx := rfl
@[simp] theorem State.accept_need (op : Op) (code : Byte) (len : Nat) : (s.accept op code len).need = s.need := rfl
@[simp] theorem State.accept_taken (op : Op) (code : Byte) (len : Nat) : (s.accept op code len).taken = s.taken := rfl
@[simp] theorem State.accept_rx (op : Op) (code : Byte) (len : Nat) : (s.accept op code len).rx = s.rx := rfl
@[simp] theorem State.accept_wake (op : Op) (code : Byte) (len : Nat) : (s.accept op code len).wake = s.wake := rfl
@[simp] theorem State.accept_reply (op : Op) (code : Byte) (len : Nat) : (s.accept op code len).reply = s.reply := rfl
@[simp] theorem State.accept_chanRx (op : Op) (code : Byte) (len : Nat) : (s.accept op code len).chanRx = s.chanRx := rfl
@[simp] theorem State.accept_chanTx (op : Op) (code : Byte) (len : Nat) : (s.accept op code len).chanTx = s.chanTx := rfl
@[simp] theorem State.accept_wire (op : Op) (code : Byte) (len : Nat) : (s.accept op code len).wire = s.wire := rfl
@[simp] theorem State.accept_inputs (op : Op) (code : Byte) (len : Nat) : (s.accept op code len).inputs = s.inputs := rfl
@[simp] theorem State.accept_params (op : Op) (code : Byte) (len : Nat) : (s.accept op code len).params = s.params := rfl
@[simp] theorem State.accept_draws (op : Op) (code : Byte) (len : Nat) : (s.accept op code len).draws = s.draws := rfl
@[simp] theorem State.accept_epoch (op : Op) (code : Byte) (len : Nat) : (s.accept op code len).epoch = s.epoch := rfl

/-! ### finish -/

@[simp] theorem State.finish_done (opc : Byte) (res : Res) (rcode count : Byte) (cls : Bool) : (s.finish opc res rcode count cls).done = true := rfl
@[simp] theorem State.finish_errBusy (opc : Byte) (res : Res) (rcode count : Byte) (cls : Bool) : (s.finish opc res rcode count cls).errBusy = s.errBusy := rfl
@[simp] theorem State.finish_result (opc : Byte) (res : Res) (rcode count : Byte) (cls : Bool) : (s.finish opc res rcode count cls).result = ⟨res, cls, rcode, count, opc⟩ := rfl
@[simp] theorem State.finish_irqEn (opc : Byte) (res : Res) (rcode count : Byte) (cls : Bool) : (s.finish opc res rcode count cls).irqEn = s.irqEn := rfl
@[simp] theorem State.finish_ackTimeout (opc : Byte) (res : Res) (rcode count : Byte) (cls : Bool) : (s.finish opc res rcode count cls).ackTimeout = s.ackTimeout := rfl
@[simp] theorem State.finish_retryDelay (opc : Byte) (res : Res) (rcode count : Byte) (cls : Bool) : (s.finish opc res rcode count cls).retryDelay = s.retryDelay := rfl
@[simp] theorem State.finish_maxAttempts (opc : Byte) (res : Res) (rcode count : Byte) (cls : Bool) : (s.finish opc res rcode count cls).maxAttempts = s.maxAttempts := rfl
@[simp] theorem State.finish_pollTimeout (opc : Byte) (res : Res) (rcode count : Byte) (cls : Bool) : (s.finish opc res rcode count cls).pollTimeout = s.pollTimeout := rfl
@[simp] theorem State.finish_crcAcc (opc : Byte) (res : Res) (rcode count : Byte) (cls : Bool) : (s.finish opc res rcode count cls).crcAcc = s.crcAcc := rfl
@[simp] theorem State.finish_dlLen (opc : Byte) (res : Res) (rcode count : Byte) (cls : Bool) : (s.finish opc res rcode count cls).dlLen = s.dlLen := rfl
@[simp] theorem State.finish_respLen (opc : Byte) (res : Res) (rcode count : Byte) (cls : Bool) : (s.finish opc res rcode count cls).respLen = s.respLen := rfl
@[simp] theorem State.finish_frameLen (opc : Byte) (res : Res) (rcode count : Byte) (cls : Bool) : (s.finish opc res rcode count cls).frameLen = s.frameLen := rfl
@[simp] theorem State.finish_txbuf (opc : Byte) (res : Res) (rcode count : Byte) (cls : Bool) : (s.finish opc res rcode count cls).txbuf = s.txbuf := rfl
@[simp] theorem State.finish_txframe (opc : Byte) (res : Res) (rcode count : Byte) (cls : Bool) : (s.finish opc res rcode count cls).txframe = s.txframe := rfl
@[simp] theorem State.finish_rxwin (opc : Byte) (res : Res) (rcode count : Byte) (cls : Bool) : (s.finish opc res rcode count cls).rxwin = s.rxwin := rfl
@[simp] theorem State.finish_dlslot (opc : Byte) (res : Res) (rcode count : Byte) (cls : Bool) : (s.finish opc res rcode count cls).dlslot = s.dlslot := rfl
@[simp] theorem State.finish_respslot (opc : Byte) (res : Res) (rcode count : Byte) (cls : Bool) : (s.finish opc res rcode count cls).respslot = s.respslot := rfl
@[simp] theorem State.finish_stg (opc : Byte) (res : Res) (rcode count : Byte) (cls : Bool) : (s.finish opc res rcode count cls).stg = s.stg := rfl
@[simp] theorem State.finish_phase (opc : Byte) (res : Res) (rcode count : Byte) (cls : Bool) : (s.finish opc res rcode count cls).phase = .idle := rfl
@[simp] theorem State.finish_op (opc : Byte) (res : Res) (rcode count : Byte) (cls : Bool) : (s.finish opc res rcode count cls).op = s.op := rfl
@[simp] theorem State.finish_code (opc : Byte) (res : Res) (rcode count : Byte) (cls : Bool) : (s.finish opc res rcode count cls).code = s.code := rfl
@[simp] theorem State.finish_len (opc : Byte) (res : Res) (rcode count : Byte) (cls : Bool) : (s.finish opc res rcode count cls).len = s.len := rfl
@[simp] theorem State.finish_attempt (opc : Byte) (res : Res) (rcode count : Byte) (cls : Bool) : (s.finish opc res rcode count cls).attempt = s.attempt := rfl
@[simp] theorem State.finish_pollsLeft (opc : Byte) (res : Res) (rcode count : Byte) (cls : Bool) : (s.finish opc res rcode count cls).pollsLeft = s.pollsLeft := rfl
@[simp] theorem State.finish_polls (opc : Byte) (res : Res) (rcode count : Byte) (cls : Bool) : (s.finish opc res rcode count cls).polls = s.polls := rfl
@[simp] theorem State.finish_timer (opc : Byte) (res : Res) (rcode count : Byte) (cls : Bool) : (s.finish opc res rcode count cls).timer = s.timer := rfl
@[simp] theorem State.finish_idx (opc : Byte) (res : Res) (rcode count : Byte) (cls : Bool) : (s.finish opc res rcode count cls).idx = s.idx := rfl
@[simp] theorem State.finish_need (opc : Byte) (res : Res) (rcode count : Byte) (cls : Bool) : (s.finish opc res rcode count cls).need = s.need := rfl
@[simp] theorem State.finish_taken (opc : Byte) (res : Res) (rcode count : Byte) (cls : Bool) : (s.finish opc res rcode count cls).taken = s.taken := rfl
@[simp] theorem State.finish_rx (opc : Byte) (res : Res) (rcode count : Byte) (cls : Bool) : (s.finish opc res rcode count cls).rx = s.rx := rfl
@[simp] theorem State.finish_wake (opc : Byte) (res : Res) (rcode count : Byte) (cls : Bool) : (s.finish opc res rcode count cls).wake = s.wake := rfl
@[simp] theorem State.finish_reply (opc : Byte) (res : Res) (rcode count : Byte) (cls : Bool) : (s.finish opc res rcode count cls).reply = s.reply := rfl
@[simp] theorem State.finish_chanRx (opc : Byte) (res : Res) (rcode count : Byte) (cls : Bool) : (s.finish opc res rcode count cls).chanRx = s.chanRx := rfl
@[simp] theorem State.finish_chanTx (opc : Byte) (res : Res) (rcode count : Byte) (cls : Bool) : (s.finish opc res rcode count cls).chanTx = s.chanTx := rfl
@[simp] theorem State.finish_wire (opc : Byte) (res : Res) (rcode count : Byte) (cls : Bool) : (s.finish opc res rcode count cls).wire = s.wire := rfl
@[simp] theorem State.finish_inputs (opc : Byte) (res : Res) (rcode count : Byte) (cls : Bool) : (s.finish opc res rcode count cls).inputs = s.inputs := rfl
@[simp] theorem State.finish_params (opc : Byte) (res : Res) (rcode count : Byte) (cls : Bool) : (s.finish opc res rcode count cls).params = s.params := rfl
@[simp] theorem State.finish_draws (opc : Byte) (res : Res) (rcode count : Byte) (cls : Bool) : (s.finish opc res rcode count cls).draws = s.draws := rfl
@[simp] theorem State.finish_epoch (opc : Byte) (res : Res) (rcode count : Byte) (cls : Bool) : (s.finish opc res rcode count cls).epoch = s.epoch := rfl

/-! ### complete -/

@[simp] theorem State.complete_done (res : Res) (rcode count : Byte) (cls : Bool) : (s.complete res rcode count cls).done = true := rfl
@[simp] theorem State.complete_errBusy (res : Res) (rcode count : Byte) (cls : Bool) : (s.complete res rcode count cls).errBusy = s.errBusy := rfl
@[simp] theorem State.complete_result (res : Res) (rcode count : Byte) (cls : Bool) : (s.complete res rcode count cls).result = ⟨res, cls, rcode, count, s.op.byte⟩ := rfl
@[simp] theorem State.complete_irqEn (res : Res) (rcode count : Byte) (cls : Bool) : (s.complete res rcode count cls).irqEn = s.irqEn := rfl
@[simp] theorem State.complete_ackTimeout (res : Res) (rcode count : Byte) (cls : Bool) : (s.complete res rcode count cls).ackTimeout = s.ackTimeout := rfl
@[simp] theorem State.complete_retryDelay (res : Res) (rcode count : Byte) (cls : Bool) : (s.complete res rcode count cls).retryDelay = s.retryDelay := rfl
@[simp] theorem State.complete_maxAttempts (res : Res) (rcode count : Byte) (cls : Bool) : (s.complete res rcode count cls).maxAttempts = s.maxAttempts := rfl
@[simp] theorem State.complete_pollTimeout (res : Res) (rcode count : Byte) (cls : Bool) : (s.complete res rcode count cls).pollTimeout = s.pollTimeout := rfl
@[simp] theorem State.complete_crcAcc (res : Res) (rcode count : Byte) (cls : Bool) : (s.complete res rcode count cls).crcAcc = s.crcAcc := rfl
@[simp] theorem State.complete_dlLen (res : Res) (rcode count : Byte) (cls : Bool) : (s.complete res rcode count cls).dlLen = s.dlLen := rfl
@[simp] theorem State.complete_respLen (res : Res) (rcode count : Byte) (cls : Bool) : (s.complete res rcode count cls).respLen = s.respLen := rfl
@[simp] theorem State.complete_frameLen (res : Res) (rcode count : Byte) (cls : Bool) : (s.complete res rcode count cls).frameLen = s.frameLen := rfl
@[simp] theorem State.complete_txbuf (res : Res) (rcode count : Byte) (cls : Bool) : (s.complete res rcode count cls).txbuf = s.txbuf := rfl
@[simp] theorem State.complete_txframe (res : Res) (rcode count : Byte) (cls : Bool) : (s.complete res rcode count cls).txframe = s.txframe := rfl
@[simp] theorem State.complete_rxwin (res : Res) (rcode count : Byte) (cls : Bool) : (s.complete res rcode count cls).rxwin = s.rxwin := rfl
@[simp] theorem State.complete_dlslot (res : Res) (rcode count : Byte) (cls : Bool) : (s.complete res rcode count cls).dlslot = s.dlslot := rfl
@[simp] theorem State.complete_respslot (res : Res) (rcode count : Byte) (cls : Bool) : (s.complete res rcode count cls).respslot = s.respslot := rfl
@[simp] theorem State.complete_stg (res : Res) (rcode count : Byte) (cls : Bool) : (s.complete res rcode count cls).stg = s.stg := rfl
@[simp] theorem State.complete_phase (res : Res) (rcode count : Byte) (cls : Bool) : (s.complete res rcode count cls).phase = .idle := rfl
@[simp] theorem State.complete_op (res : Res) (rcode count : Byte) (cls : Bool) : (s.complete res rcode count cls).op = s.op := rfl
@[simp] theorem State.complete_code (res : Res) (rcode count : Byte) (cls : Bool) : (s.complete res rcode count cls).code = s.code := rfl
@[simp] theorem State.complete_len (res : Res) (rcode count : Byte) (cls : Bool) : (s.complete res rcode count cls).len = s.len := rfl
@[simp] theorem State.complete_attempt (res : Res) (rcode count : Byte) (cls : Bool) : (s.complete res rcode count cls).attempt = s.attempt := rfl
@[simp] theorem State.complete_pollsLeft (res : Res) (rcode count : Byte) (cls : Bool) : (s.complete res rcode count cls).pollsLeft = s.pollsLeft := rfl
@[simp] theorem State.complete_polls (res : Res) (rcode count : Byte) (cls : Bool) : (s.complete res rcode count cls).polls = s.polls := rfl
@[simp] theorem State.complete_timer (res : Res) (rcode count : Byte) (cls : Bool) : (s.complete res rcode count cls).timer = s.timer := rfl
@[simp] theorem State.complete_idx (res : Res) (rcode count : Byte) (cls : Bool) : (s.complete res rcode count cls).idx = s.idx := rfl
@[simp] theorem State.complete_need (res : Res) (rcode count : Byte) (cls : Bool) : (s.complete res rcode count cls).need = s.need := rfl
@[simp] theorem State.complete_taken (res : Res) (rcode count : Byte) (cls : Bool) : (s.complete res rcode count cls).taken = s.taken := rfl
@[simp] theorem State.complete_rx (res : Res) (rcode count : Byte) (cls : Bool) : (s.complete res rcode count cls).rx = s.rx := rfl
@[simp] theorem State.complete_wake (res : Res) (rcode count : Byte) (cls : Bool) : (s.complete res rcode count cls).wake = s.wake := rfl
@[simp] theorem State.complete_reply (res : Res) (rcode count : Byte) (cls : Bool) : (s.complete res rcode count cls).reply = s.reply := rfl
@[simp] theorem State.complete_chanRx (res : Res) (rcode count : Byte) (cls : Bool) : (s.complete res rcode count cls).chanRx = s.chanRx := rfl
@[simp] theorem State.complete_chanTx (res : Res) (rcode count : Byte) (cls : Bool) : (s.complete res rcode count cls).chanTx = s.chanTx := rfl
@[simp] theorem State.complete_wire (res : Res) (rcode count : Byte) (cls : Bool) : (s.complete res rcode count cls).wire = s.wire := rfl
@[simp] theorem State.complete_inputs (res : Res) (rcode count : Byte) (cls : Bool) : (s.complete res rcode count cls).inputs = s.inputs := rfl
@[simp] theorem State.complete_params (res : Res) (rcode count : Byte) (cls : Bool) : (s.complete res rcode count cls).params = s.params := rfl
@[simp] theorem State.complete_draws (res : Res) (rcode count : Byte) (cls : Bool) : (s.complete res rcode count cls).draws = s.draws := rfl
@[simp] theorem State.complete_epoch (res : Res) (rcode count : Byte) (cls : Bool) : (s.complete res rcode count cls).epoch = s.epoch := rfl

/-! ### clearFlags -/

@[simp] theorem State.clearFlags_done (d e : Bool) : (s.clearFlags d e).done = (s.done && !d) := rfl
@[simp] theorem State.clearFlags_errBusy (d e : Bool) : (s.clearFlags d e).errBusy = (s.errBusy && !e) := rfl
@[simp] theorem State.clearFlags_result (d e : Bool) : (s.clearFlags d e).result = s.result := rfl
@[simp] theorem State.clearFlags_irqEn (d e : Bool) : (s.clearFlags d e).irqEn = s.irqEn := rfl
@[simp] theorem State.clearFlags_ackTimeout (d e : Bool) : (s.clearFlags d e).ackTimeout = s.ackTimeout := rfl
@[simp] theorem State.clearFlags_retryDelay (d e : Bool) : (s.clearFlags d e).retryDelay = s.retryDelay := rfl
@[simp] theorem State.clearFlags_maxAttempts (d e : Bool) : (s.clearFlags d e).maxAttempts = s.maxAttempts := rfl
@[simp] theorem State.clearFlags_pollTimeout (d e : Bool) : (s.clearFlags d e).pollTimeout = s.pollTimeout := rfl
@[simp] theorem State.clearFlags_crcAcc (d e : Bool) : (s.clearFlags d e).crcAcc = s.crcAcc := rfl
@[simp] theorem State.clearFlags_dlLen (d e : Bool) : (s.clearFlags d e).dlLen = s.dlLen := rfl
@[simp] theorem State.clearFlags_respLen (d e : Bool) : (s.clearFlags d e).respLen = s.respLen := rfl
@[simp] theorem State.clearFlags_frameLen (d e : Bool) : (s.clearFlags d e).frameLen = s.frameLen := rfl
@[simp] theorem State.clearFlags_txbuf (d e : Bool) : (s.clearFlags d e).txbuf = s.txbuf := rfl
@[simp] theorem State.clearFlags_txframe (d e : Bool) : (s.clearFlags d e).txframe = s.txframe := rfl
@[simp] theorem State.clearFlags_rxwin (d e : Bool) : (s.clearFlags d e).rxwin = s.rxwin := rfl
@[simp] theorem State.clearFlags_dlslot (d e : Bool) : (s.clearFlags d e).dlslot = s.dlslot := rfl
@[simp] theorem State.clearFlags_respslot (d e : Bool) : (s.clearFlags d e).respslot = s.respslot := rfl
@[simp] theorem State.clearFlags_stg (d e : Bool) : (s.clearFlags d e).stg = s.stg := rfl
@[simp] theorem State.clearFlags_phase (d e : Bool) : (s.clearFlags d e).phase = s.phase := rfl
@[simp] theorem State.clearFlags_op (d e : Bool) : (s.clearFlags d e).op = s.op := rfl
@[simp] theorem State.clearFlags_code (d e : Bool) : (s.clearFlags d e).code = s.code := rfl
@[simp] theorem State.clearFlags_len (d e : Bool) : (s.clearFlags d e).len = s.len := rfl
@[simp] theorem State.clearFlags_attempt (d e : Bool) : (s.clearFlags d e).attempt = s.attempt := rfl
@[simp] theorem State.clearFlags_pollsLeft (d e : Bool) : (s.clearFlags d e).pollsLeft = s.pollsLeft := rfl
@[simp] theorem State.clearFlags_polls (d e : Bool) : (s.clearFlags d e).polls = s.polls := rfl
@[simp] theorem State.clearFlags_timer (d e : Bool) : (s.clearFlags d e).timer = s.timer := rfl
@[simp] theorem State.clearFlags_idx (d e : Bool) : (s.clearFlags d e).idx = s.idx := rfl
@[simp] theorem State.clearFlags_need (d e : Bool) : (s.clearFlags d e).need = s.need := rfl
@[simp] theorem State.clearFlags_taken (d e : Bool) : (s.clearFlags d e).taken = s.taken := rfl
@[simp] theorem State.clearFlags_rx (d e : Bool) : (s.clearFlags d e).rx = s.rx := rfl
@[simp] theorem State.clearFlags_wake (d e : Bool) : (s.clearFlags d e).wake = s.wake := rfl
@[simp] theorem State.clearFlags_reply (d e : Bool) : (s.clearFlags d e).reply = s.reply := rfl
@[simp] theorem State.clearFlags_chanRx (d e : Bool) : (s.clearFlags d e).chanRx = s.chanRx := rfl
@[simp] theorem State.clearFlags_chanTx (d e : Bool) : (s.clearFlags d e).chanTx = s.chanTx := rfl
@[simp] theorem State.clearFlags_wire (d e : Bool) : (s.clearFlags d e).wire = s.wire := rfl
@[simp] theorem State.clearFlags_inputs (d e : Bool) : (s.clearFlags d e).inputs = s.inputs := rfl
@[simp] theorem State.clearFlags_params (d e : Bool) : (s.clearFlags d e).params = s.params := rfl
@[simp] theorem State.clearFlags_draws (d e : Bool) : (s.clearFlags d e).draws = s.draws := rfl
@[simp] theorem State.clearFlags_epoch (d e : Bool) : (s.clearFlags d e).epoch = s.epoch := rfl

/-! ### putTxbuf -/

@[simp] theorem State.putTxbuf_done (i : Nat) (b : Byte) : (s.putTxbuf i b).done = s.done := rfl
@[simp] theorem State.putTxbuf_errBusy (i : Nat) (b : Byte) : (s.putTxbuf i b).errBusy = s.errBusy := rfl
@[simp] theorem State.putTxbuf_result (i : Nat) (b : Byte) : (s.putTxbuf i b).result = s.result := rfl
@[simp] theorem State.putTxbuf_irqEn (i : Nat) (b : Byte) : (s.putTxbuf i b).irqEn = s.irqEn := rfl
@[simp] theorem State.putTxbuf_ackTimeout (i : Nat) (b : Byte) : (s.putTxbuf i b).ackTimeout = s.ackTimeout := rfl
@[simp] theorem State.putTxbuf_retryDelay (i : Nat) (b : Byte) : (s.putTxbuf i b).retryDelay = s.retryDelay := rfl
@[simp] theorem State.putTxbuf_maxAttempts (i : Nat) (b : Byte) : (s.putTxbuf i b).maxAttempts = s.maxAttempts := rfl
@[simp] theorem State.putTxbuf_pollTimeout (i : Nat) (b : Byte) : (s.putTxbuf i b).pollTimeout = s.pollTimeout := rfl
@[simp] theorem State.putTxbuf_crcAcc (i : Nat) (b : Byte) : (s.putTxbuf i b).crcAcc = s.crcAcc := rfl
@[simp] theorem State.putTxbuf_dlLen (i : Nat) (b : Byte) : (s.putTxbuf i b).dlLen = s.dlLen := rfl
@[simp] theorem State.putTxbuf_respLen (i : Nat) (b : Byte) : (s.putTxbuf i b).respLen = s.respLen := rfl
@[simp] theorem State.putTxbuf_frameLen (i : Nat) (b : Byte) : (s.putTxbuf i b).frameLen = s.frameLen := rfl
@[simp] theorem State.putTxbuf_txbuf (i : Nat) (b : Byte) : (s.putTxbuf i b).txbuf = s.txbuf.write i b := rfl
@[simp] theorem State.putTxbuf_txframe (i : Nat) (b : Byte) : (s.putTxbuf i b).txframe = s.txframe := rfl
@[simp] theorem State.putTxbuf_rxwin (i : Nat) (b : Byte) : (s.putTxbuf i b).rxwin = s.rxwin := rfl
@[simp] theorem State.putTxbuf_dlslot (i : Nat) (b : Byte) : (s.putTxbuf i b).dlslot = s.dlslot := rfl
@[simp] theorem State.putTxbuf_respslot (i : Nat) (b : Byte) : (s.putTxbuf i b).respslot = s.respslot := rfl
@[simp] theorem State.putTxbuf_stg (i : Nat) (b : Byte) : (s.putTxbuf i b).stg = s.stg := rfl
@[simp] theorem State.putTxbuf_phase (i : Nat) (b : Byte) : (s.putTxbuf i b).phase = s.phase := rfl
@[simp] theorem State.putTxbuf_op (i : Nat) (b : Byte) : (s.putTxbuf i b).op = s.op := rfl
@[simp] theorem State.putTxbuf_code (i : Nat) (b : Byte) : (s.putTxbuf i b).code = s.code := rfl
@[simp] theorem State.putTxbuf_len (i : Nat) (b : Byte) : (s.putTxbuf i b).len = s.len := rfl
@[simp] theorem State.putTxbuf_attempt (i : Nat) (b : Byte) : (s.putTxbuf i b).attempt = s.attempt := rfl
@[simp] theorem State.putTxbuf_pollsLeft (i : Nat) (b : Byte) : (s.putTxbuf i b).pollsLeft = s.pollsLeft := rfl
@[simp] theorem State.putTxbuf_polls (i : Nat) (b : Byte) : (s.putTxbuf i b).polls = s.polls := rfl
@[simp] theorem State.putTxbuf_timer (i : Nat) (b : Byte) : (s.putTxbuf i b).timer = s.timer := rfl
@[simp] theorem State.putTxbuf_idx (i : Nat) (b : Byte) : (s.putTxbuf i b).idx = s.idx := rfl
@[simp] theorem State.putTxbuf_need (i : Nat) (b : Byte) : (s.putTxbuf i b).need = s.need := rfl
@[simp] theorem State.putTxbuf_taken (i : Nat) (b : Byte) : (s.putTxbuf i b).taken = s.taken := rfl
@[simp] theorem State.putTxbuf_rx (i : Nat) (b : Byte) : (s.putTxbuf i b).rx = s.rx := rfl
@[simp] theorem State.putTxbuf_wake (i : Nat) (b : Byte) : (s.putTxbuf i b).wake = s.wake := rfl
@[simp] theorem State.putTxbuf_reply (i : Nat) (b : Byte) : (s.putTxbuf i b).reply = s.reply := rfl
@[simp] theorem State.putTxbuf_chanRx (i : Nat) (b : Byte) : (s.putTxbuf i b).chanRx = s.chanRx := rfl
@[simp] theorem State.putTxbuf_chanTx (i : Nat) (b : Byte) : (s.putTxbuf i b).chanTx = s.chanTx := rfl
@[simp] theorem State.putTxbuf_wire (i : Nat) (b : Byte) : (s.putTxbuf i b).wire = s.wire := rfl
@[simp] theorem State.putTxbuf_inputs (i : Nat) (b : Byte) : (s.putTxbuf i b).inputs = s.inputs := rfl
@[simp] theorem State.putTxbuf_params (i : Nat) (b : Byte) : (s.putTxbuf i b).params = s.params := rfl
@[simp] theorem State.putTxbuf_draws (i : Nat) (b : Byte) : (s.putTxbuf i b).draws = s.draws := rfl
@[simp] theorem State.putTxbuf_epoch (i : Nat) (b : Byte) : (s.putTxbuf i b).epoch = s.epoch := rfl

/-! ### putFrame -/

@[simp] theorem State.putFrame_done (f : List Byte) : (s.putFrame f).done = s.done := rfl
@[simp] theorem State.putFrame_errBusy (f : List Byte) : (s.putFrame f).errBusy = s.errBusy := rfl
@[simp] theorem State.putFrame_result (f : List Byte) : (s.putFrame f).result = s.result := rfl
@[simp] theorem State.putFrame_irqEn (f : List Byte) : (s.putFrame f).irqEn = s.irqEn := rfl
@[simp] theorem State.putFrame_ackTimeout (f : List Byte) : (s.putFrame f).ackTimeout = s.ackTimeout := rfl
@[simp] theorem State.putFrame_retryDelay (f : List Byte) : (s.putFrame f).retryDelay = s.retryDelay := rfl
@[simp] theorem State.putFrame_maxAttempts (f : List Byte) : (s.putFrame f).maxAttempts = s.maxAttempts := rfl
@[simp] theorem State.putFrame_pollTimeout (f : List Byte) : (s.putFrame f).pollTimeout = s.pollTimeout := rfl
@[simp] theorem State.putFrame_crcAcc (f : List Byte) : (s.putFrame f).crcAcc = s.crcAcc := rfl
@[simp] theorem State.putFrame_dlLen (f : List Byte) : (s.putFrame f).dlLen = s.dlLen := rfl
@[simp] theorem State.putFrame_respLen (f : List Byte) : (s.putFrame f).respLen = s.respLen := rfl
@[simp] theorem State.putFrame_frameLen (f : List Byte) : (s.putFrame f).frameLen = BitVec.ofNat 7 f.length := rfl
@[simp] theorem State.putFrame_txbuf (f : List Byte) : (s.putFrame f).txbuf = s.txbuf := rfl
@[simp] theorem State.putFrame_txframe (f : List Byte) : (s.putFrame f).txframe = s.txframe.writeAll 0 f := rfl
@[simp] theorem State.putFrame_rxwin (f : List Byte) : (s.putFrame f).rxwin = s.rxwin := rfl
@[simp] theorem State.putFrame_dlslot (f : List Byte) : (s.putFrame f).dlslot = s.dlslot := rfl
@[simp] theorem State.putFrame_respslot (f : List Byte) : (s.putFrame f).respslot = s.respslot := rfl
@[simp] theorem State.putFrame_stg (f : List Byte) : (s.putFrame f).stg = s.stg := rfl
@[simp] theorem State.putFrame_phase (f : List Byte) : (s.putFrame f).phase = s.phase := rfl
@[simp] theorem State.putFrame_op (f : List Byte) : (s.putFrame f).op = s.op := rfl
@[simp] theorem State.putFrame_code (f : List Byte) : (s.putFrame f).code = s.code := rfl
@[simp] theorem State.putFrame_len (f : List Byte) : (s.putFrame f).len = s.len := rfl
@[simp] theorem State.putFrame_attempt (f : List Byte) : (s.putFrame f).attempt = s.attempt := rfl
@[simp] theorem State.putFrame_pollsLeft (f : List Byte) : (s.putFrame f).pollsLeft = s.pollsLeft := rfl
@[simp] theorem State.putFrame_polls (f : List Byte) : (s.putFrame f).polls = s.polls := rfl
@[simp] theorem State.putFrame_timer (f : List Byte) : (s.putFrame f).timer = s.timer := rfl
@[simp] theorem State.putFrame_idx (f : List Byte) : (s.putFrame f).idx = s.idx := rfl
@[simp] theorem State.putFrame_need (f : List Byte) : (s.putFrame f).need = s.need := rfl
@[simp] theorem State.putFrame_taken (f : List Byte) : (s.putFrame f).taken = s.taken := rfl
@[simp] theorem State.putFrame_rx (f : List Byte) : (s.putFrame f).rx = s.rx := rfl
@[simp] theorem State.putFrame_wake (f : List Byte) : (s.putFrame f).wake = s.wake := rfl
@[simp] theorem State.putFrame_reply (f : List Byte) : (s.putFrame f).reply = s.reply := rfl
@[simp] theorem State.putFrame_chanRx (f : List Byte) : (s.putFrame f).chanRx = s.chanRx := rfl
@[simp] theorem State.putFrame_chanTx (f : List Byte) : (s.putFrame f).chanTx = s.chanTx := rfl
@[simp] theorem State.putFrame_wire (f : List Byte) : (s.putFrame f).wire = s.wire := rfl
@[simp] theorem State.putFrame_inputs (f : List Byte) : (s.putFrame f).inputs = s.inputs := rfl
@[simp] theorem State.putFrame_params (f : List Byte) : (s.putFrame f).params = s.params := rfl
@[simp] theorem State.putFrame_draws (f : List Byte) : (s.putFrame f).draws = s.draws := rfl
@[simp] theorem State.putFrame_epoch (f : List Byte) : (s.putFrame f).epoch = s.epoch := rfl

/-! ### putDownlink -/

@[simp] theorem State.putDownlink_done (f : List Byte) : (s.putDownlink f).done = s.done := rfl
@[simp] theorem State.putDownlink_errBusy (f : List Byte) : (s.putDownlink f).errBusy = s.errBusy := rfl
@[simp] theorem State.putDownlink_result (f : List Byte) : (s.putDownlink f).result = s.result := rfl
@[simp] theorem State.putDownlink_irqEn (f : List Byte) : (s.putDownlink f).irqEn = s.irqEn := rfl
@[simp] theorem State.putDownlink_ackTimeout (f : List Byte) : (s.putDownlink f).ackTimeout = s.ackTimeout := rfl
@[simp] theorem State.putDownlink_retryDelay (f : List Byte) : (s.putDownlink f).retryDelay = s.retryDelay := rfl
@[simp] theorem State.putDownlink_maxAttempts (f : List Byte) : (s.putDownlink f).maxAttempts = s.maxAttempts := rfl
@[simp] theorem State.putDownlink_pollTimeout (f : List Byte) : (s.putDownlink f).pollTimeout = s.pollTimeout := rfl
@[simp] theorem State.putDownlink_crcAcc (f : List Byte) : (s.putDownlink f).crcAcc = s.crcAcc := rfl
@[simp] theorem State.putDownlink_dlLen (f : List Byte) : (s.putDownlink f).dlLen = BitVec.ofNat 7 f.length := rfl
@[simp] theorem State.putDownlink_respLen (f : List Byte) : (s.putDownlink f).respLen = s.respLen := rfl
@[simp] theorem State.putDownlink_frameLen (f : List Byte) : (s.putDownlink f).frameLen = s.frameLen := rfl
@[simp] theorem State.putDownlink_txbuf (f : List Byte) : (s.putDownlink f).txbuf = s.txbuf := rfl
@[simp] theorem State.putDownlink_txframe (f : List Byte) : (s.putDownlink f).txframe = s.txframe := rfl
@[simp] theorem State.putDownlink_rxwin (f : List Byte) : (s.putDownlink f).rxwin = s.rxwin := rfl
@[simp] theorem State.putDownlink_dlslot (f : List Byte) : (s.putDownlink f).dlslot = s.dlslot.writeAll 0 f := rfl
@[simp] theorem State.putDownlink_respslot (f : List Byte) : (s.putDownlink f).respslot = s.respslot := rfl
@[simp] theorem State.putDownlink_stg (f : List Byte) : (s.putDownlink f).stg = s.stg := rfl
@[simp] theorem State.putDownlink_phase (f : List Byte) : (s.putDownlink f).phase = s.phase := rfl
@[simp] theorem State.putDownlink_op (f : List Byte) : (s.putDownlink f).op = s.op := rfl
@[simp] theorem State.putDownlink_code (f : List Byte) : (s.putDownlink f).code = s.code := rfl
@[simp] theorem State.putDownlink_len (f : List Byte) : (s.putDownlink f).len = s.len := rfl
@[simp] theorem State.putDownlink_attempt (f : List Byte) : (s.putDownlink f).attempt = s.attempt := rfl
@[simp] theorem State.putDownlink_pollsLeft (f : List Byte) : (s.putDownlink f).pollsLeft = s.pollsLeft := rfl
@[simp] theorem State.putDownlink_polls (f : List Byte) : (s.putDownlink f).polls = s.polls := rfl
@[simp] theorem State.putDownlink_timer (f : List Byte) : (s.putDownlink f).timer = s.timer := rfl
@[simp] theorem State.putDownlink_idx (f : List Byte) : (s.putDownlink f).idx = s.idx := rfl
@[simp] theorem State.putDownlink_need (f : List Byte) : (s.putDownlink f).need = s.need := rfl
@[simp] theorem State.putDownlink_taken (f : List Byte) : (s.putDownlink f).taken = s.taken := rfl
@[simp] theorem State.putDownlink_rx (f : List Byte) : (s.putDownlink f).rx = s.rx := rfl
@[simp] theorem State.putDownlink_wake (f : List Byte) : (s.putDownlink f).wake = s.wake := rfl
@[simp] theorem State.putDownlink_reply (f : List Byte) : (s.putDownlink f).reply = s.reply := rfl
@[simp] theorem State.putDownlink_chanRx (f : List Byte) : (s.putDownlink f).chanRx = s.chanRx := rfl
@[simp] theorem State.putDownlink_chanTx (f : List Byte) : (s.putDownlink f).chanTx = s.chanTx := rfl
@[simp] theorem State.putDownlink_wire (f : List Byte) : (s.putDownlink f).wire = s.wire := rfl
@[simp] theorem State.putDownlink_inputs (f : List Byte) : (s.putDownlink f).inputs = s.inputs := rfl
@[simp] theorem State.putDownlink_params (f : List Byte) : (s.putDownlink f).params = s.params := rfl
@[simp] theorem State.putDownlink_draws (f : List Byte) : (s.putDownlink f).draws = s.draws := rfl
@[simp] theorem State.putDownlink_epoch (f : List Byte) : (s.putDownlink f).epoch = s.epoch := rfl

/-! ### putResponse -/

@[simp] theorem State.putResponse_done (f : List Byte) : (s.putResponse f).done = s.done := rfl
@[simp] theorem State.putResponse_errBusy (f : List Byte) : (s.putResponse f).errBusy = s.errBusy := rfl
@[simp] theorem State.putResponse_result (f : List Byte) : (s.putResponse f).result = s.result := rfl
@[simp] theorem State.putResponse_irqEn (f : List Byte) : (s.putResponse f).irqEn = s.irqEn := rfl
@[simp] theorem State.putResponse_ackTimeout (f : List Byte) : (s.putResponse f).ackTimeout = s.ackTimeout := rfl
@[simp] theorem State.putResponse_retryDelay (f : List Byte) : (s.putResponse f).retryDelay = s.retryDelay := rfl
@[simp] theorem State.putResponse_maxAttempts (f : List Byte) : (s.putResponse f).maxAttempts = s.maxAttempts := rfl
@[simp] theorem State.putResponse_pollTimeout (f : List Byte) : (s.putResponse f).pollTimeout = s.pollTimeout := rfl
@[simp] theorem State.putResponse_crcAcc (f : List Byte) : (s.putResponse f).crcAcc = s.crcAcc := rfl
@[simp] theorem State.putResponse_dlLen (f : List Byte) : (s.putResponse f).dlLen = s.dlLen := rfl
@[simp] theorem State.putResponse_respLen (f : List Byte) : (s.putResponse f).respLen = BitVec.ofNat 7 f.length := rfl
@[simp] theorem State.putResponse_frameLen (f : List Byte) : (s.putResponse f).frameLen = s.frameLen := rfl
@[simp] theorem State.putResponse_txbuf (f : List Byte) : (s.putResponse f).txbuf = s.txbuf := rfl
@[simp] theorem State.putResponse_txframe (f : List Byte) : (s.putResponse f).txframe = s.txframe := rfl
@[simp] theorem State.putResponse_rxwin (f : List Byte) : (s.putResponse f).rxwin = s.rxwin := rfl
@[simp] theorem State.putResponse_dlslot (f : List Byte) : (s.putResponse f).dlslot = s.dlslot := rfl
@[simp] theorem State.putResponse_respslot (f : List Byte) : (s.putResponse f).respslot = s.respslot.writeAll 0 f := rfl
@[simp] theorem State.putResponse_stg (f : List Byte) : (s.putResponse f).stg = s.stg := rfl
@[simp] theorem State.putResponse_phase (f : List Byte) : (s.putResponse f).phase = s.phase := rfl
@[simp] theorem State.putResponse_op (f : List Byte) : (s.putResponse f).op = s.op := rfl
@[simp] theorem State.putResponse_code (f : List Byte) : (s.putResponse f).code = s.code := rfl
@[simp] theorem State.putResponse_len (f : List Byte) : (s.putResponse f).len = s.len := rfl
@[simp] theorem State.putResponse_attempt (f : List Byte) : (s.putResponse f).attempt = s.attempt := rfl
@[simp] theorem State.putResponse_pollsLeft (f : List Byte) : (s.putResponse f).pollsLeft = s.pollsLeft := rfl
@[simp] theorem State.putResponse_polls (f : List Byte) : (s.putResponse f).polls = s.polls := rfl
@[simp] theorem State.putResponse_timer (f : List Byte) : (s.putResponse f).timer = s.timer := rfl
@[simp] theorem State.putResponse_idx (f : List Byte) : (s.putResponse f).idx = s.idx := rfl
@[simp] theorem State.putResponse_need (f : List Byte) : (s.putResponse f).need = s.need := rfl
@[simp] theorem State.putResponse_taken (f : List Byte) : (s.putResponse f).taken = s.taken := rfl
@[simp] theorem State.putResponse_rx (f : List Byte) : (s.putResponse f).rx = s.rx := rfl
@[simp] theorem State.putResponse_wake (f : List Byte) : (s.putResponse f).wake = s.wake := rfl
@[simp] theorem State.putResponse_reply (f : List Byte) : (s.putResponse f).reply = s.reply := rfl
@[simp] theorem State.putResponse_chanRx (f : List Byte) : (s.putResponse f).chanRx = s.chanRx := rfl
@[simp] theorem State.putResponse_chanTx (f : List Byte) : (s.putResponse f).chanTx = s.chanTx := rfl
@[simp] theorem State.putResponse_wire (f : List Byte) : (s.putResponse f).wire = s.wire := rfl
@[simp] theorem State.putResponse_inputs (f : List Byte) : (s.putResponse f).inputs = s.inputs := rfl
@[simp] theorem State.putResponse_params (f : List Byte) : (s.putResponse f).params = s.params := rfl
@[simp] theorem State.putResponse_draws (f : List Byte) : (s.putResponse f).draws = s.draws := rfl
@[simp] theorem State.putResponse_epoch (f : List Byte) : (s.putResponse f).epoch = s.epoch := rfl

/-! ### putWindow -/

@[simp] theorem State.putWindow_done (f : List Byte) : (s.putWindow f).done = s.done := rfl
@[simp] theorem State.putWindow_errBusy (f : List Byte) : (s.putWindow f).errBusy = s.errBusy := rfl
@[simp] theorem State.putWindow_result (f : List Byte) : (s.putWindow f).result = s.result := rfl
@[simp] theorem State.putWindow_irqEn (f : List Byte) : (s.putWindow f).irqEn = s.irqEn := rfl
@[simp] theorem State.putWindow_ackTimeout (f : List Byte) : (s.putWindow f).ackTimeout = s.ackTimeout := rfl
@[simp] theorem State.putWindow_retryDelay (f : List Byte) : (s.putWindow f).retryDelay = s.retryDelay := rfl
@[simp] theorem State.putWindow_maxAttempts (f : List Byte) : (s.putWindow f).maxAttempts = s.maxAttempts := rfl
@[simp] theorem State.putWindow_pollTimeout (f : List Byte) : (s.putWindow f).pollTimeout = s.pollTimeout := rfl
@[simp] theorem State.putWindow_crcAcc (f : List Byte) : (s.putWindow f).crcAcc = s.crcAcc := rfl
@[simp] theorem State.putWindow_dlLen (f : List Byte) : (s.putWindow f).dlLen = s.dlLen := rfl
@[simp] theorem State.putWindow_respLen (f : List Byte) : (s.putWindow f).respLen = s.respLen := rfl
@[simp] theorem State.putWindow_frameLen (f : List Byte) : (s.putWindow f).frameLen = s.frameLen := rfl
@[simp] theorem State.putWindow_txbuf (f : List Byte) : (s.putWindow f).txbuf = s.txbuf := rfl
@[simp] theorem State.putWindow_txframe (f : List Byte) : (s.putWindow f).txframe = s.txframe := rfl
@[simp] theorem State.putWindow_rxwin (f : List Byte) : (s.putWindow f).rxwin = s.rxwin.writeAll 0 f := rfl
@[simp] theorem State.putWindow_dlslot (f : List Byte) : (s.putWindow f).dlslot = s.dlslot := rfl
@[simp] theorem State.putWindow_respslot (f : List Byte) : (s.putWindow f).respslot = s.respslot := rfl
@[simp] theorem State.putWindow_stg (f : List Byte) : (s.putWindow f).stg = s.stg := rfl
@[simp] theorem State.putWindow_phase (f : List Byte) : (s.putWindow f).phase = s.phase := rfl
@[simp] theorem State.putWindow_op (f : List Byte) : (s.putWindow f).op = s.op := rfl
@[simp] theorem State.putWindow_code (f : List Byte) : (s.putWindow f).code = s.code := rfl
@[simp] theorem State.putWindow_len (f : List Byte) : (s.putWindow f).len = s.len := rfl
@[simp] theorem State.putWindow_attempt (f : List Byte) : (s.putWindow f).attempt = s.attempt := rfl
@[simp] theorem State.putWindow_pollsLeft (f : List Byte) : (s.putWindow f).pollsLeft = s.pollsLeft := rfl
@[simp] theorem State.putWindow_polls (f : List Byte) : (s.putWindow f).polls = s.polls := rfl
@[simp] theorem State.putWindow_timer (f : List Byte) : (s.putWindow f).timer = s.timer := rfl
@[simp] theorem State.putWindow_idx (f : List Byte) : (s.putWindow f).idx = s.idx := rfl
@[simp] theorem State.putWindow_need (f : List Byte) : (s.putWindow f).need = s.need := rfl
@[simp] theorem State.putWindow_taken (f : List Byte) : (s.putWindow f).taken = s.taken := rfl
@[simp] theorem State.putWindow_rx (f : List Byte) : (s.putWindow f).rx = s.rx := rfl
@[simp] theorem State.putWindow_wake (f : List Byte) : (s.putWindow f).wake = s.wake := rfl
@[simp] theorem State.putWindow_reply (f : List Byte) : (s.putWindow f).reply = s.reply := rfl
@[simp] theorem State.putWindow_chanRx (f : List Byte) : (s.putWindow f).chanRx = s.chanRx := rfl
@[simp] theorem State.putWindow_chanTx (f : List Byte) : (s.putWindow f).chanTx = s.chanTx := rfl
@[simp] theorem State.putWindow_wire (f : List Byte) : (s.putWindow f).wire = s.wire := rfl
@[simp] theorem State.putWindow_inputs (f : List Byte) : (s.putWindow f).inputs = s.inputs := rfl
@[simp] theorem State.putWindow_params (f : List Byte) : (s.putWindow f).params = s.params := rfl
@[simp] theorem State.putWindow_draws (f : List Byte) : (s.putWindow f).draws = s.draws := rfl
@[simp] theorem State.putWindow_epoch (f : List Byte) : (s.putWindow f).epoch = s.epoch := rfl

/-! ### putByte -/

@[simp] theorem State.putByte_done (b : Byte) : (s.putByte b).done = s.done := rfl
@[simp] theorem State.putByte_errBusy (b : Byte) : (s.putByte b).errBusy = s.errBusy := rfl
@[simp] theorem State.putByte_result (b : Byte) : (s.putByte b).result = s.result := rfl
@[simp] theorem State.putByte_irqEn (b : Byte) : (s.putByte b).irqEn = s.irqEn := rfl
@[simp] theorem State.putByte_ackTimeout (b : Byte) : (s.putByte b).ackTimeout = s.ackTimeout := rfl
@[simp] theorem State.putByte_retryDelay (b : Byte) : (s.putByte b).retryDelay = s.retryDelay := rfl
@[simp] theorem State.putByte_maxAttempts (b : Byte) : (s.putByte b).maxAttempts = s.maxAttempts := rfl
@[simp] theorem State.putByte_pollTimeout (b : Byte) : (s.putByte b).pollTimeout = s.pollTimeout := rfl
@[simp] theorem State.putByte_crcAcc (b : Byte) : (s.putByte b).crcAcc = s.crcAcc := rfl
@[simp] theorem State.putByte_dlLen (b : Byte) : (s.putByte b).dlLen = s.dlLen := rfl
@[simp] theorem State.putByte_respLen (b : Byte) : (s.putByte b).respLen = s.respLen := rfl
@[simp] theorem State.putByte_frameLen (b : Byte) : (s.putByte b).frameLen = s.frameLen := rfl
@[simp] theorem State.putByte_txbuf (b : Byte) : (s.putByte b).txbuf = s.txbuf := rfl
@[simp] theorem State.putByte_txframe (b : Byte) : (s.putByte b).txframe = s.txframe := rfl
@[simp] theorem State.putByte_rxwin (b : Byte) : (s.putByte b).rxwin = s.rxwin := rfl
@[simp] theorem State.putByte_dlslot (b : Byte) : (s.putByte b).dlslot = s.dlslot := rfl
@[simp] theorem State.putByte_respslot (b : Byte) : (s.putByte b).respslot = s.respslot := rfl
@[simp] theorem State.putByte_stg (b : Byte) : (s.putByte b).stg = s.stg := rfl
@[simp] theorem State.putByte_phase (b : Byte) : (s.putByte b).phase = s.phase := rfl
@[simp] theorem State.putByte_op (b : Byte) : (s.putByte b).op = s.op := rfl
@[simp] theorem State.putByte_code (b : Byte) : (s.putByte b).code = s.code := rfl
@[simp] theorem State.putByte_len (b : Byte) : (s.putByte b).len = s.len := rfl
@[simp] theorem State.putByte_attempt (b : Byte) : (s.putByte b).attempt = s.attempt := rfl
@[simp] theorem State.putByte_pollsLeft (b : Byte) : (s.putByte b).pollsLeft = s.pollsLeft := rfl
@[simp] theorem State.putByte_polls (b : Byte) : (s.putByte b).polls = s.polls := rfl
@[simp] theorem State.putByte_timer (b : Byte) : (s.putByte b).timer = s.timer := rfl
@[simp] theorem State.putByte_idx (b : Byte) : (s.putByte b).idx = s.idx + 1#7 := rfl
@[simp] theorem State.putByte_need (b : Byte) : (s.putByte b).need = s.need := rfl
@[simp] theorem State.putByte_taken (b : Byte) : (s.putByte b).taken = s.taken := rfl
@[simp] theorem State.putByte_rx (b : Byte) : (s.putByte b).rx = s.rx := rfl
@[simp] theorem State.putByte_wake (b : Byte) : (s.putByte b).wake = s.wake := rfl
@[simp] theorem State.putByte_reply (b : Byte) : (s.putByte b).reply = s.reply := rfl
@[simp] theorem State.putByte_chanRx (b : Byte) : (s.putByte b).chanRx = s.chanRx := rfl
@[simp] theorem State.putByte_chanTx (b : Byte) : (s.putByte b).chanTx = s.chanTx ++ [b] := rfl
@[simp] theorem State.putByte_wire (b : Byte) : (s.putByte b).wire = s.wire := rfl
@[simp] theorem State.putByte_inputs (b : Byte) : (s.putByte b).inputs = s.inputs := rfl
@[simp] theorem State.putByte_params (b : Byte) : (s.putByte b).params = s.params := rfl
@[simp] theorem State.putByte_draws (b : Byte) : (s.putByte b).draws = s.draws := rfl
@[simp] theorem State.putByte_epoch (b : Byte) : (s.putByte b).epoch = s.epoch := rfl

/-! ### beginTransmit -/

@[simp] theorem State.beginTransmit_done : (s.beginTransmit).done = s.done := rfl
@[simp] theorem State.beginTransmit_errBusy : (s.beginTransmit).errBusy = s.errBusy := rfl
@[simp] theorem State.beginTransmit_result : (s.beginTransmit).result = s.result := rfl
@[simp] theorem State.beginTransmit_irqEn : (s.beginTransmit).irqEn = s.irqEn := rfl
@[simp] theorem State.beginTransmit_ackTimeout : (s.beginTransmit).ackTimeout = s.ackTimeout := rfl
@[simp] theorem State.beginTransmit_retryDelay : (s.beginTransmit).retryDelay = s.retryDelay := rfl
@[simp] theorem State.beginTransmit_maxAttempts : (s.beginTransmit).maxAttempts = s.maxAttempts := rfl
@[simp] theorem State.beginTransmit_pollTimeout : (s.beginTransmit).pollTimeout = s.pollTimeout := rfl
@[simp] theorem State.beginTransmit_crcAcc : (s.beginTransmit).crcAcc = s.crcAcc := rfl
@[simp] theorem State.beginTransmit_dlLen : (s.beginTransmit).dlLen = s.dlLen := rfl
@[simp] theorem State.beginTransmit_respLen : (s.beginTransmit).respLen = s.respLen := rfl
@[simp] theorem State.beginTransmit_frameLen : (s.beginTransmit).frameLen = s.frameLen := rfl
@[simp] theorem State.beginTransmit_txbuf : (s.beginTransmit).txbuf = s.txbuf := rfl
@[simp] theorem State.beginTransmit_txframe : (s.beginTransmit).txframe = s.txframe := rfl
@[simp] theorem State.beginTransmit_rxwin : (s.beginTransmit).rxwin = s.rxwin := rfl
@[simp] theorem State.beginTransmit_dlslot : (s.beginTransmit).dlslot = s.dlslot := rfl
@[simp] theorem State.beginTransmit_respslot : (s.beginTransmit).respslot = s.respslot := rfl
@[simp] theorem State.beginTransmit_stg : (s.beginTransmit).stg = s.stg := rfl
@[simp] theorem State.beginTransmit_phase : (s.beginTransmit).phase = .txSettle1 := rfl
@[simp] theorem State.beginTransmit_op : (s.beginTransmit).op = s.op := rfl
@[simp] theorem State.beginTransmit_code : (s.beginTransmit).code = s.code := rfl
@[simp] theorem State.beginTransmit_len : (s.beginTransmit).len = s.len := rfl
@[simp] theorem State.beginTransmit_attempt : (s.beginTransmit).attempt = s.attempt := rfl
@[simp] theorem State.beginTransmit_pollsLeft : (s.beginTransmit).pollsLeft = s.pollsLeft := rfl
@[simp] theorem State.beginTransmit_polls : (s.beginTransmit).polls = s.polls := rfl
@[simp] theorem State.beginTransmit_timer : (s.beginTransmit).timer = Config.settleTicks := rfl
@[simp] theorem State.beginTransmit_idx : (s.beginTransmit).idx = s.idx := rfl
@[simp] theorem State.beginTransmit_need : (s.beginTransmit).need = s.need := rfl
@[simp] theorem State.beginTransmit_taken : (s.beginTransmit).taken = s.taken := rfl
@[simp] theorem State.beginTransmit_rx : (s.beginTransmit).rx = s.rx := rfl
@[simp] theorem State.beginTransmit_wake : (s.beginTransmit).wake = false := rfl
@[simp] theorem State.beginTransmit_reply : (s.beginTransmit).reply = s.reply := rfl
@[simp] theorem State.beginTransmit_chanRx : (s.beginTransmit).chanRx = s.chanRx := rfl
@[simp] theorem State.beginTransmit_chanTx : (s.beginTransmit).chanTx = s.chanTx := rfl
@[simp] theorem State.beginTransmit_wire : (s.beginTransmit).wire = s.wire := rfl
@[simp] theorem State.beginTransmit_inputs : (s.beginTransmit).inputs = s.inputs := rfl
@[simp] theorem State.beginTransmit_params : (s.beginTransmit).params = s.params := rfl
@[simp] theorem State.beginTransmit_draws : (s.beginTransmit).draws = s.draws := rfl
@[simp] theorem State.beginTransmit_epoch : (s.beginTransmit).epoch = s.epoch := rfl

/-! ### nextAttempt -/

@[simp] theorem State.nextAttempt_done : (s.nextAttempt).done = s.done := rfl
@[simp] theorem State.nextAttempt_errBusy : (s.nextAttempt).errBusy = s.errBusy := rfl
@[simp] theorem State.nextAttempt_result : (s.nextAttempt).result = s.result := rfl
@[simp] theorem State.nextAttempt_irqEn : (s.nextAttempt).irqEn = s.irqEn := rfl
@[simp] theorem State.nextAttempt_ackTimeout : (s.nextAttempt).ackTimeout = s.ackTimeout := rfl
@[simp] theorem State.nextAttempt_retryDelay : (s.nextAttempt).retryDelay = s.retryDelay := rfl
@[simp] theorem State.nextAttempt_maxAttempts : (s.nextAttempt).maxAttempts = s.maxAttempts := rfl
@[simp] theorem State.nextAttempt_pollTimeout : (s.nextAttempt).pollTimeout = s.pollTimeout := rfl
@[simp] theorem State.nextAttempt_crcAcc : (s.nextAttempt).crcAcc = s.crcAcc := rfl
@[simp] theorem State.nextAttempt_dlLen : (s.nextAttempt).dlLen = s.dlLen := rfl
@[simp] theorem State.nextAttempt_respLen : (s.nextAttempt).respLen = s.respLen := rfl
@[simp] theorem State.nextAttempt_frameLen : (s.nextAttempt).frameLen = s.frameLen := rfl
@[simp] theorem State.nextAttempt_txbuf : (s.nextAttempt).txbuf = s.txbuf := rfl
@[simp] theorem State.nextAttempt_txframe : (s.nextAttempt).txframe = s.txframe := rfl
@[simp] theorem State.nextAttempt_rxwin : (s.nextAttempt).rxwin = s.rxwin := rfl
@[simp] theorem State.nextAttempt_dlslot : (s.nextAttempt).dlslot = s.dlslot := rfl
@[simp] theorem State.nextAttempt_respslot : (s.nextAttempt).respslot = s.respslot := rfl
@[simp] theorem State.nextAttempt_stg : (s.nextAttempt).stg = s.stg := rfl
@[simp] theorem State.nextAttempt_phase : (s.nextAttempt).phase = s.phase := rfl
@[simp] theorem State.nextAttempt_op : (s.nextAttempt).op = s.op := rfl
@[simp] theorem State.nextAttempt_code : (s.nextAttempt).code = s.code := rfl
@[simp] theorem State.nextAttempt_len : (s.nextAttempt).len = s.len := rfl
@[simp] theorem State.nextAttempt_attempt : (s.nextAttempt).attempt = s.attempt + 1#8 := rfl
@[simp] theorem State.nextAttempt_pollsLeft : (s.nextAttempt).pollsLeft = s.pollsLeft := rfl
@[simp] theorem State.nextAttempt_polls : (s.nextAttempt).polls = s.polls := rfl
@[simp] theorem State.nextAttempt_timer : (s.nextAttempt).timer = s.timer := rfl
@[simp] theorem State.nextAttempt_idx : (s.nextAttempt).idx = s.idx := rfl
@[simp] theorem State.nextAttempt_need : (s.nextAttempt).need = s.need := rfl
@[simp] theorem State.nextAttempt_taken : (s.nextAttempt).taken = s.taken := rfl
@[simp] theorem State.nextAttempt_rx : (s.nextAttempt).rx = s.rx := rfl
@[simp] theorem State.nextAttempt_wake : (s.nextAttempt).wake = s.wake := rfl
@[simp] theorem State.nextAttempt_reply : (s.nextAttempt).reply = s.reply := rfl
@[simp] theorem State.nextAttempt_chanRx : (s.nextAttempt).chanRx = s.chanRx := rfl
@[simp] theorem State.nextAttempt_chanTx : (s.nextAttempt).chanTx = s.chanTx := rfl
@[simp] theorem State.nextAttempt_wire : (s.nextAttempt).wire = s.wire := rfl
@[simp] theorem State.nextAttempt_inputs : (s.nextAttempt).inputs = s.inputs := rfl
@[simp] theorem State.nextAttempt_params : (s.nextAttempt).params = s.params := rfl
@[simp] theorem State.nextAttempt_draws : (s.nextAttempt).draws = s.draws := rfl
@[simp] theorem State.nextAttempt_epoch : (s.nextAttempt).epoch = s.epoch := rfl

/-! ### countPoll -/

@[simp] theorem State.countPoll_done : (s.countPoll).done = s.done := rfl
@[simp] theorem State.countPoll_errBusy : (s.countPoll).errBusy = s.errBusy := rfl
@[simp] theorem State.countPoll_result : (s.countPoll).result = s.result := rfl
@[simp] theorem State.countPoll_irqEn : (s.countPoll).irqEn = s.irqEn := rfl
@[simp] theorem State.countPoll_ackTimeout : (s.countPoll).ackTimeout = s.ackTimeout := rfl
@[simp] theorem State.countPoll_retryDelay : (s.countPoll).retryDelay = s.retryDelay := rfl
@[simp] theorem State.countPoll_maxAttempts : (s.countPoll).maxAttempts = s.maxAttempts := rfl
@[simp] theorem State.countPoll_pollTimeout : (s.countPoll).pollTimeout = s.pollTimeout := rfl
@[simp] theorem State.countPoll_crcAcc : (s.countPoll).crcAcc = s.crcAcc := rfl
@[simp] theorem State.countPoll_dlLen : (s.countPoll).dlLen = s.dlLen := rfl
@[simp] theorem State.countPoll_respLen : (s.countPoll).respLen = s.respLen := rfl
@[simp] theorem State.countPoll_frameLen : (s.countPoll).frameLen = s.frameLen := rfl
@[simp] theorem State.countPoll_txbuf : (s.countPoll).txbuf = s.txbuf := rfl
@[simp] theorem State.countPoll_txframe : (s.countPoll).txframe = s.txframe := rfl
@[simp] theorem State.countPoll_rxwin : (s.countPoll).rxwin = s.rxwin := rfl
@[simp] theorem State.countPoll_dlslot : (s.countPoll).dlslot = s.dlslot := rfl
@[simp] theorem State.countPoll_respslot : (s.countPoll).respslot = s.respslot := rfl
@[simp] theorem State.countPoll_stg : (s.countPoll).stg = s.stg := rfl
@[simp] theorem State.countPoll_phase : (s.countPoll).phase = s.phase := rfl
@[simp] theorem State.countPoll_op : (s.countPoll).op = s.op := rfl
@[simp] theorem State.countPoll_code : (s.countPoll).code = s.code := rfl
@[simp] theorem State.countPoll_len : (s.countPoll).len = s.len := rfl
@[simp] theorem State.countPoll_attempt : (s.countPoll).attempt = s.attempt := rfl
@[simp] theorem State.countPoll_pollsLeft : (s.countPoll).pollsLeft = s.pollsLeft := rfl
@[simp] theorem State.countPoll_polls : (s.countPoll).polls = (if s.polls = 255#8 then 255#8 else s.polls + 1#8) := rfl
@[simp] theorem State.countPoll_timer : (s.countPoll).timer = s.timer := rfl
@[simp] theorem State.countPoll_idx : (s.countPoll).idx = s.idx := rfl
@[simp] theorem State.countPoll_need : (s.countPoll).need = s.need := rfl
@[simp] theorem State.countPoll_taken : (s.countPoll).taken = s.taken := rfl
@[simp] theorem State.countPoll_rx : (s.countPoll).rx = s.rx := rfl
@[simp] theorem State.countPoll_wake : (s.countPoll).wake = s.wake := rfl
@[simp] theorem State.countPoll_reply : (s.countPoll).reply = s.reply := rfl
@[simp] theorem State.countPoll_chanRx : (s.countPoll).chanRx = s.chanRx := rfl
@[simp] theorem State.countPoll_chanTx : (s.countPoll).chanTx = s.chanTx := rfl
@[simp] theorem State.countPoll_wire : (s.countPoll).wire = s.wire := rfl
@[simp] theorem State.countPoll_inputs : (s.countPoll).inputs = s.inputs := rfl
@[simp] theorem State.countPoll_params : (s.countPoll).params = s.params := rfl
@[simp] theorem State.countPoll_draws : (s.countPoll).draws = s.draws := rfl
@[simp] theorem State.countPoll_epoch : (s.countPoll).epoch = s.epoch := rfl

/-! ### setRx -/

@[simp] theorem State.setRx_done (o : RxOutcome) : (s.setRx o).done = s.done := rfl
@[simp] theorem State.setRx_errBusy (o : RxOutcome) : (s.setRx o).errBusy = s.errBusy := rfl
@[simp] theorem State.setRx_result (o : RxOutcome) : (s.setRx o).result = s.result := rfl
@[simp] theorem State.setRx_irqEn (o : RxOutcome) : (s.setRx o).irqEn = s.irqEn := rfl
@[simp] theorem State.setRx_ackTimeout (o : RxOutcome) : (s.setRx o).ackTimeout = s.ackTimeout := rfl
@[simp] theorem State.setRx_retryDelay (o : RxOutcome) : (s.setRx o).retryDelay = s.retryDelay := rfl
@[simp] theorem State.setRx_maxAttempts (o : RxOutcome) : (s.setRx o).maxAttempts = s.maxAttempts := rfl
@[simp] theorem State.setRx_pollTimeout (o : RxOutcome) : (s.setRx o).pollTimeout = s.pollTimeout := rfl
@[simp] theorem State.setRx_crcAcc (o : RxOutcome) : (s.setRx o).crcAcc = s.crcAcc := rfl
@[simp] theorem State.setRx_dlLen (o : RxOutcome) : (s.setRx o).dlLen = s.dlLen := rfl
@[simp] theorem State.setRx_respLen (o : RxOutcome) : (s.setRx o).respLen = s.respLen := rfl
@[simp] theorem State.setRx_frameLen (o : RxOutcome) : (s.setRx o).frameLen = s.frameLen := rfl
@[simp] theorem State.setRx_txbuf (o : RxOutcome) : (s.setRx o).txbuf = s.txbuf := rfl
@[simp] theorem State.setRx_txframe (o : RxOutcome) : (s.setRx o).txframe = s.txframe := rfl
@[simp] theorem State.setRx_rxwin (o : RxOutcome) : (s.setRx o).rxwin = s.rxwin := rfl
@[simp] theorem State.setRx_dlslot (o : RxOutcome) : (s.setRx o).dlslot = s.dlslot := rfl
@[simp] theorem State.setRx_respslot (o : RxOutcome) : (s.setRx o).respslot = s.respslot := rfl
@[simp] theorem State.setRx_stg (o : RxOutcome) : (s.setRx o).stg = s.stg := rfl
@[simp] theorem State.setRx_phase (o : RxOutcome) : (s.setRx o).phase = s.phase := rfl
@[simp] theorem State.setRx_op (o : RxOutcome) : (s.setRx o).op = s.op := rfl
@[simp] theorem State.setRx_code (o : RxOutcome) : (s.setRx o).code = s.code := rfl
@[simp] theorem State.setRx_len (o : RxOutcome) : (s.setRx o).len = s.len := rfl
@[simp] theorem State.setRx_attempt (o : RxOutcome) : (s.setRx o).attempt = s.attempt := rfl
@[simp] theorem State.setRx_pollsLeft (o : RxOutcome) : (s.setRx o).pollsLeft = s.pollsLeft := rfl
@[simp] theorem State.setRx_polls (o : RxOutcome) : (s.setRx o).polls = s.polls := rfl
@[simp] theorem State.setRx_timer (o : RxOutcome) : (s.setRx o).timer = s.timer := rfl
@[simp] theorem State.setRx_idx (o : RxOutcome) : (s.setRx o).idx = s.idx := rfl
@[simp] theorem State.setRx_need (o : RxOutcome) : (s.setRx o).need = s.need := rfl
@[simp] theorem State.setRx_taken (o : RxOutcome) : (s.setRx o).taken = s.taken := rfl
@[simp] theorem State.setRx_rx (o : RxOutcome) : (s.setRx o).rx = o := rfl
@[simp] theorem State.setRx_wake (o : RxOutcome) : (s.setRx o).wake = s.wake := rfl
@[simp] theorem State.setRx_reply (o : RxOutcome) : (s.setRx o).reply = s.reply := rfl
@[simp] theorem State.setRx_chanRx (o : RxOutcome) : (s.setRx o).chanRx = s.chanRx := rfl
@[simp] theorem State.setRx_chanTx (o : RxOutcome) : (s.setRx o).chanTx = s.chanTx := rfl
@[simp] theorem State.setRx_wire (o : RxOutcome) : (s.setRx o).wire = s.wire := rfl
@[simp] theorem State.setRx_inputs (o : RxOutcome) : (s.setRx o).inputs = s.inputs := rfl
@[simp] theorem State.setRx_params (o : RxOutcome) : (s.setRx o).params = s.params := rfl
@[simp] theorem State.setRx_draws (o : RxOutcome) : (s.setRx o).draws = s.draws := rfl
@[simp] theorem State.setRx_epoch (o : RxOutcome) : (s.setRx o).epoch = s.epoch := rfl

/-! ### clearStage -/

@[simp] theorem State.clearStage_done : (s.clearStage).done = s.done := rfl
@[simp] theorem State.clearStage_errBusy : (s.clearStage).errBusy = s.errBusy := rfl
@[simp] theorem State.clearStage_result : (s.clearStage).result = s.result := rfl
@[simp] theorem State.clearStage_irqEn : (s.clearStage).irqEn = s.irqEn := rfl
@[simp] theorem State.clearStage_ackTimeout : (s.clearStage).ackTimeout = s.ackTimeout := rfl
@[simp] theorem State.clearStage_retryDelay : (s.clearStage).retryDelay = s.retryDelay := rfl
@[simp] theorem State.clearStage_maxAttempts : (s.clearStage).maxAttempts = s.maxAttempts := rfl
@[simp] theorem State.clearStage_pollTimeout : (s.clearStage).pollTimeout = s.pollTimeout := rfl
@[simp] theorem State.clearStage_crcAcc : (s.clearStage).crcAcc = s.crcAcc := rfl
@[simp] theorem State.clearStage_dlLen : (s.clearStage).dlLen = s.dlLen := rfl
@[simp] theorem State.clearStage_respLen : (s.clearStage).respLen = s.respLen := rfl
@[simp] theorem State.clearStage_frameLen : (s.clearStage).frameLen = s.frameLen := rfl
@[simp] theorem State.clearStage_txbuf : (s.clearStage).txbuf = s.txbuf := rfl
@[simp] theorem State.clearStage_txframe : (s.clearStage).txframe = s.txframe := rfl
@[simp] theorem State.clearStage_rxwin : (s.clearStage).rxwin = s.rxwin := rfl
@[simp] theorem State.clearStage_dlslot : (s.clearStage).dlslot = s.dlslot := rfl
@[simp] theorem State.clearStage_respslot : (s.clearStage).respslot = s.respslot := rfl
@[simp] theorem State.clearStage_stg : (s.clearStage).stg = s.stg := rfl
@[simp] theorem State.clearStage_phase : (s.clearStage).phase = .rxHdr := rfl
@[simp] theorem State.clearStage_op : (s.clearStage).op = s.op := rfl
@[simp] theorem State.clearStage_code : (s.clearStage).code = s.code := rfl
@[simp] theorem State.clearStage_len : (s.clearStage).len = s.len := rfl
@[simp] theorem State.clearStage_attempt : (s.clearStage).attempt = s.attempt := rfl
@[simp] theorem State.clearStage_pollsLeft : (s.clearStage).pollsLeft = s.pollsLeft := rfl
@[simp] theorem State.clearStage_polls : (s.clearStage).polls = s.polls := rfl
@[simp] theorem State.clearStage_timer : (s.clearStage).timer = s.timer := rfl
@[simp] theorem State.clearStage_idx : (s.clearStage).idx = s.idx := rfl
@[simp] theorem State.clearStage_need : (s.clearStage).need = s.need := rfl
@[simp] theorem State.clearStage_taken : (s.clearStage).taken = 0#7 := rfl
@[simp] theorem State.clearStage_rx : (s.clearStage).rx = s.rx := rfl
@[simp] theorem State.clearStage_wake : (s.clearStage).wake = s.wake := rfl
@[simp] theorem State.clearStage_reply : (s.clearStage).reply = s.reply := rfl
@[simp] theorem State.clearStage_chanRx : (s.clearStage).chanRx = s.chanRx := rfl
@[simp] theorem State.clearStage_chanTx : (s.clearStage).chanTx = s.chanTx := rfl
@[simp] theorem State.clearStage_wire : (s.clearStage).wire = s.wire := rfl
@[simp] theorem State.clearStage_inputs : (s.clearStage).inputs = s.inputs := rfl
@[simp] theorem State.clearStage_params : (s.clearStage).params = s.params := rfl
@[simp] theorem State.clearStage_draws : (s.clearStage).draws = s.draws := rfl
@[simp] theorem State.clearStage_epoch : (s.clearStage).epoch = s.epoch := rfl

/-! ### setAttempt -/

@[simp] theorem State.setAttempt_done (n : Byte) : (s.setAttempt n).done = s.done := rfl
@[simp] theorem State.setAttempt_errBusy (n : Byte) : (s.setAttempt n).errBusy = s.errBusy := rfl
@[simp] theorem State.setAttempt_result (n : Byte) : (s.setAttempt n).result = s.result := rfl
@[simp] theorem State.setAttempt_irqEn (n : Byte) : (s.setAttempt n).irqEn = s.irqEn := rfl
@[simp] theorem State.setAttempt_ackTimeout (n : Byte) : (s.setAttempt n).ackTimeout = s.ackTimeout := rfl
@[simp] theorem State.setAttempt_retryDelay (n : Byte) : (s.setAttempt n).retryDelay = s.retryDelay := rfl
@[simp] theorem State.setAttempt_maxAttempts (n : Byte) : (s.setAttempt n).maxAttempts = s.maxAttempts := rfl
@[simp] theorem State.setAttempt_pollTimeout (n : Byte) : (s.setAttempt n).pollTimeout = s.pollTimeout := rfl
@[simp] theorem State.setAttempt_crcAcc (n : Byte) : (s.setAttempt n).crcAcc = s.crcAcc := rfl
@[simp] theorem State.setAttempt_dlLen (n : Byte) : (s.setAttempt n).dlLen = s.dlLen := rfl
@[simp] theorem State.setAttempt_respLen (n : Byte) : (s.setAttempt n).respLen = s.respLen := rfl
@[simp] theorem State.setAttempt_frameLen (n : Byte) : (s.setAttempt n).frameLen = s.frameLen := rfl
@[simp] theorem State.setAttempt_txbuf (n : Byte) : (s.setAttempt n).txbuf = s.txbuf := rfl
@[simp] theorem State.setAttempt_txframe (n : Byte) : (s.setAttempt n).txframe = s.txframe := rfl
@[simp] theorem State.setAttempt_rxwin (n : Byte) : (s.setAttempt n).rxwin = s.rxwin := rfl
@[simp] theorem State.setAttempt_dlslot (n : Byte) : (s.setAttempt n).dlslot = s.dlslot := rfl
@[simp] theorem State.setAttempt_respslot (n : Byte) : (s.setAttempt n).respslot = s.respslot := rfl
@[simp] theorem State.setAttempt_stg (n : Byte) : (s.setAttempt n).stg = s.stg := rfl
@[simp] theorem State.setAttempt_phase (n : Byte) : (s.setAttempt n).phase = s.phase := rfl
@[simp] theorem State.setAttempt_op (n : Byte) : (s.setAttempt n).op = s.op := rfl
@[simp] theorem State.setAttempt_code (n : Byte) : (s.setAttempt n).code = s.code := rfl
@[simp] theorem State.setAttempt_len (n : Byte) : (s.setAttempt n).len = s.len := rfl
@[simp] theorem State.setAttempt_attempt (n : Byte) : (s.setAttempt n).attempt = n := rfl
@[simp] theorem State.setAttempt_pollsLeft (n : Byte) : (s.setAttempt n).pollsLeft = s.pollsLeft := rfl
@[simp] theorem State.setAttempt_polls (n : Byte) : (s.setAttempt n).polls = s.polls := rfl
@[simp] theorem State.setAttempt_timer (n : Byte) : (s.setAttempt n).timer = s.timer := rfl
@[simp] theorem State.setAttempt_idx (n : Byte) : (s.setAttempt n).idx = s.idx := rfl
@[simp] theorem State.setAttempt_need (n : Byte) : (s.setAttempt n).need = s.need := rfl
@[simp] theorem State.setAttempt_taken (n : Byte) : (s.setAttempt n).taken = s.taken := rfl
@[simp] theorem State.setAttempt_rx (n : Byte) : (s.setAttempt n).rx = s.rx := rfl
@[simp] theorem State.setAttempt_wake (n : Byte) : (s.setAttempt n).wake = s.wake := rfl
@[simp] theorem State.setAttempt_reply (n : Byte) : (s.setAttempt n).reply = s.reply := rfl
@[simp] theorem State.setAttempt_chanRx (n : Byte) : (s.setAttempt n).chanRx = s.chanRx := rfl
@[simp] theorem State.setAttempt_chanTx (n : Byte) : (s.setAttempt n).chanTx = s.chanTx := rfl
@[simp] theorem State.setAttempt_wire (n : Byte) : (s.setAttempt n).wire = s.wire := rfl
@[simp] theorem State.setAttempt_inputs (n : Byte) : (s.setAttempt n).inputs = s.inputs := rfl
@[simp] theorem State.setAttempt_params (n : Byte) : (s.setAttempt n).params = s.params := rfl
@[simp] theorem State.setAttempt_draws (n : Byte) : (s.setAttempt n).draws = s.draws := rfl
@[simp] theorem State.setAttempt_epoch (n : Byte) : (s.setAttempt n).epoch = s.epoch := rfl

/-! ### setBudget -/

@[simp] theorem State.setBudget_done (n : Byte) : (s.setBudget n).done = s.done := rfl
@[simp] theorem State.setBudget_errBusy (n : Byte) : (s.setBudget n).errBusy = s.errBusy := rfl
@[simp] theorem State.setBudget_result (n : Byte) : (s.setBudget n).result = s.result := rfl
@[simp] theorem State.setBudget_irqEn (n : Byte) : (s.setBudget n).irqEn = s.irqEn := rfl
@[simp] theorem State.setBudget_ackTimeout (n : Byte) : (s.setBudget n).ackTimeout = s.ackTimeout := rfl
@[simp] theorem State.setBudget_retryDelay (n : Byte) : (s.setBudget n).retryDelay = s.retryDelay := rfl
@[simp] theorem State.setBudget_maxAttempts (n : Byte) : (s.setBudget n).maxAttempts = s.maxAttempts := rfl
@[simp] theorem State.setBudget_pollTimeout (n : Byte) : (s.setBudget n).pollTimeout = s.pollTimeout := rfl
@[simp] theorem State.setBudget_crcAcc (n : Byte) : (s.setBudget n).crcAcc = s.crcAcc := rfl
@[simp] theorem State.setBudget_dlLen (n : Byte) : (s.setBudget n).dlLen = s.dlLen := rfl
@[simp] theorem State.setBudget_respLen (n : Byte) : (s.setBudget n).respLen = s.respLen := rfl
@[simp] theorem State.setBudget_frameLen (n : Byte) : (s.setBudget n).frameLen = s.frameLen := rfl
@[simp] theorem State.setBudget_txbuf (n : Byte) : (s.setBudget n).txbuf = s.txbuf := rfl
@[simp] theorem State.setBudget_txframe (n : Byte) : (s.setBudget n).txframe = s.txframe := rfl
@[simp] theorem State.setBudget_rxwin (n : Byte) : (s.setBudget n).rxwin = s.rxwin := rfl
@[simp] theorem State.setBudget_dlslot (n : Byte) : (s.setBudget n).dlslot = s.dlslot := rfl
@[simp] theorem State.setBudget_respslot (n : Byte) : (s.setBudget n).respslot = s.respslot := rfl
@[simp] theorem State.setBudget_stg (n : Byte) : (s.setBudget n).stg = s.stg := rfl
@[simp] theorem State.setBudget_phase (n : Byte) : (s.setBudget n).phase = s.phase := rfl
@[simp] theorem State.setBudget_op (n : Byte) : (s.setBudget n).op = s.op := rfl
@[simp] theorem State.setBudget_code (n : Byte) : (s.setBudget n).code = s.code := rfl
@[simp] theorem State.setBudget_len (n : Byte) : (s.setBudget n).len = s.len := rfl
@[simp] theorem State.setBudget_attempt (n : Byte) : (s.setBudget n).attempt = s.attempt := rfl
@[simp] theorem State.setBudget_pollsLeft (n : Byte) : (s.setBudget n).pollsLeft = n := rfl
@[simp] theorem State.setBudget_polls (n : Byte) : (s.setBudget n).polls = 0#8 := rfl
@[simp] theorem State.setBudget_timer (n : Byte) : (s.setBudget n).timer = s.timer := rfl
@[simp] theorem State.setBudget_idx (n : Byte) : (s.setBudget n).idx = s.idx := rfl
@[simp] theorem State.setBudget_need (n : Byte) : (s.setBudget n).need = s.need := rfl
@[simp] theorem State.setBudget_taken (n : Byte) : (s.setBudget n).taken = s.taken := rfl
@[simp] theorem State.setBudget_rx (n : Byte) : (s.setBudget n).rx = s.rx := rfl
@[simp] theorem State.setBudget_wake (n : Byte) : (s.setBudget n).wake = s.wake := rfl
@[simp] theorem State.setBudget_reply (n : Byte) : (s.setBudget n).reply = s.reply := rfl
@[simp] theorem State.setBudget_chanRx (n : Byte) : (s.setBudget n).chanRx = s.chanRx := rfl
@[simp] theorem State.setBudget_chanTx (n : Byte) : (s.setBudget n).chanTx = s.chanTx := rfl
@[simp] theorem State.setBudget_wire (n : Byte) : (s.setBudget n).wire = s.wire := rfl
@[simp] theorem State.setBudget_inputs (n : Byte) : (s.setBudget n).inputs = s.inputs := rfl
@[simp] theorem State.setBudget_params (n : Byte) : (s.setBudget n).params = s.params := rfl
@[simp] theorem State.setBudget_draws (n : Byte) : (s.setBudget n).draws = s.draws := rfl
@[simp] theorem State.setBudget_epoch (n : Byte) : (s.setBudget n).epoch = s.epoch := rfl

/-! ### spendBudget -/

@[simp] theorem State.spendBudget_done : (s.spendBudget).done = s.done := rfl
@[simp] theorem State.spendBudget_errBusy : (s.spendBudget).errBusy = s.errBusy := rfl
@[simp] theorem State.spendBudget_result : (s.spendBudget).result = s.result := rfl
@[simp] theorem State.spendBudget_irqEn : (s.spendBudget).irqEn = s.irqEn := rfl
@[simp] theorem State.spendBudget_ackTimeout : (s.spendBudget).ackTimeout = s.ackTimeout := rfl
@[simp] theorem State.spendBudget_retryDelay : (s.spendBudget).retryDelay = s.retryDelay := rfl
@[simp] theorem State.spendBudget_maxAttempts : (s.spendBudget).maxAttempts = s.maxAttempts := rfl
@[simp] theorem State.spendBudget_pollTimeout : (s.spendBudget).pollTimeout = s.pollTimeout := rfl
@[simp] theorem State.spendBudget_crcAcc : (s.spendBudget).crcAcc = s.crcAcc := rfl
@[simp] theorem State.spendBudget_dlLen : (s.spendBudget).dlLen = s.dlLen := rfl
@[simp] theorem State.spendBudget_respLen : (s.spendBudget).respLen = s.respLen := rfl
@[simp] theorem State.spendBudget_frameLen : (s.spendBudget).frameLen = s.frameLen := rfl
@[simp] theorem State.spendBudget_txbuf : (s.spendBudget).txbuf = s.txbuf := rfl
@[simp] theorem State.spendBudget_txframe : (s.spendBudget).txframe = s.txframe := rfl
@[simp] theorem State.spendBudget_rxwin : (s.spendBudget).rxwin = s.rxwin := rfl
@[simp] theorem State.spendBudget_dlslot : (s.spendBudget).dlslot = s.dlslot := rfl
@[simp] theorem State.spendBudget_respslot : (s.spendBudget).respslot = s.respslot := rfl
@[simp] theorem State.spendBudget_stg : (s.spendBudget).stg = s.stg := rfl
@[simp] theorem State.spendBudget_phase : (s.spendBudget).phase = s.phase := rfl
@[simp] theorem State.spendBudget_op : (s.spendBudget).op = s.op := rfl
@[simp] theorem State.spendBudget_code : (s.spendBudget).code = s.code := rfl
@[simp] theorem State.spendBudget_len : (s.spendBudget).len = s.len := rfl
@[simp] theorem State.spendBudget_attempt : (s.spendBudget).attempt = s.attempt := rfl
@[simp] theorem State.spendBudget_pollsLeft : (s.spendBudget).pollsLeft = s.pollsLeft - 1#8 := rfl
@[simp] theorem State.spendBudget_polls : (s.spendBudget).polls = s.polls := rfl
@[simp] theorem State.spendBudget_timer : (s.spendBudget).timer = s.timer := rfl
@[simp] theorem State.spendBudget_idx : (s.spendBudget).idx = s.idx := rfl
@[simp] theorem State.spendBudget_need : (s.spendBudget).need = s.need := rfl
@[simp] theorem State.spendBudget_taken : (s.spendBudget).taken = s.taken := rfl
@[simp] theorem State.spendBudget_rx : (s.spendBudget).rx = s.rx := rfl
@[simp] theorem State.spendBudget_wake : (s.spendBudget).wake = s.wake := rfl
@[simp] theorem State.spendBudget_reply : (s.spendBudget).reply = s.reply := rfl
@[simp] theorem State.spendBudget_chanRx : (s.spendBudget).chanRx = s.chanRx := rfl
@[simp] theorem State.spendBudget_chanTx : (s.spendBudget).chanTx = s.chanTx := rfl
@[simp] theorem State.spendBudget_wire : (s.spendBudget).wire = s.wire := rfl
@[simp] theorem State.spendBudget_inputs : (s.spendBudget).inputs = s.inputs := rfl
@[simp] theorem State.spendBudget_params : (s.spendBudget).params = s.params := rfl
@[simp] theorem State.spendBudget_draws : (s.spendBudget).draws = s.draws := rfl
@[simp] theorem State.spendBudget_epoch : (s.spendBudget).epoch = s.epoch := rfl

/-! ### tickDown -/

@[simp] theorem State.tickDown_done : (s.tickDown).done = s.done := rfl
@[simp] theorem State.tickDown_errBusy : (s.tickDown).errBusy = s.errBusy := rfl
@[simp] theorem State.tickDown_result : (s.tickDown).result = s.result := rfl
@[simp] theorem State.tickDown_irqEn : (s.tickDown).irqEn = s.irqEn := rfl
@[simp] theorem State.tickDown_ackTimeout : (s.tickDown).ackTimeout = s.ackTimeout := rfl
@[simp] theorem State.tickDown_retryDelay : (s.tickDown).retryDelay = s.retryDelay := rfl
@[simp] theorem State.tickDown_maxAttempts : (s.tickDown).maxAttempts = s.maxAttempts := rfl
@[simp] theorem State.tickDown_pollTimeout : (s.tickDown).pollTimeout = s.pollTimeout := rfl
@[simp] theorem State.tickDown_crcAcc : (s.tickDown).crcAcc = s.crcAcc := rfl
@[simp] theorem State.tickDown_dlLen : (s.tickDown).dlLen = s.dlLen := rfl
@[simp] theorem State.tickDown_respLen : (s.tickDown).respLen = s.respLen := rfl
@[simp] theorem State.tickDown_frameLen : (s.tickDown).frameLen = s.frameLen := rfl
@[simp] theorem State.tickDown_txbuf : (s.tickDown).txbuf = s.txbuf := rfl
@[simp] theorem State.tickDown_txframe : (s.tickDown).txframe = s.txframe := rfl
@[simp] theorem State.tickDown_rxwin : (s.tickDown).rxwin = s.rxwin := rfl
@[simp] theorem State.tickDown_dlslot : (s.tickDown).dlslot = s.dlslot := rfl
@[simp] theorem State.tickDown_respslot : (s.tickDown).respslot = s.respslot := rfl
@[simp] theorem State.tickDown_stg : (s.tickDown).stg = s.stg := rfl
@[simp] theorem State.tickDown_phase : (s.tickDown).phase = s.phase := rfl
@[simp] theorem State.tickDown_op : (s.tickDown).op = s.op := rfl
@[simp] theorem State.tickDown_code : (s.tickDown).code = s.code := rfl
@[simp] theorem State.tickDown_len : (s.tickDown).len = s.len := rfl
@[simp] theorem State.tickDown_attempt : (s.tickDown).attempt = s.attempt := rfl
@[simp] theorem State.tickDown_pollsLeft : (s.tickDown).pollsLeft = s.pollsLeft := rfl
@[simp] theorem State.tickDown_polls : (s.tickDown).polls = s.polls := rfl
@[simp] theorem State.tickDown_timer : (s.tickDown).timer = s.timer - 1#24 := rfl
@[simp] theorem State.tickDown_idx : (s.tickDown).idx = s.idx := rfl
@[simp] theorem State.tickDown_need : (s.tickDown).need = s.need := rfl
@[simp] theorem State.tickDown_taken : (s.tickDown).taken = s.taken := rfl
@[simp] theorem State.tickDown_rx : (s.tickDown).rx = s.rx := rfl
@[simp] theorem State.tickDown_wake : (s.tickDown).wake = s.wake := rfl
@[simp] theorem State.tickDown_reply : (s.tickDown).reply = s.reply := rfl
@[simp] theorem State.tickDown_chanRx : (s.tickDown).chanRx = s.chanRx := rfl
@[simp] theorem State.tickDown_chanTx : (s.tickDown).chanTx = s.chanTx := rfl
@[simp] theorem State.tickDown_wire : (s.tickDown).wire = s.wire := rfl
@[simp] theorem State.tickDown_inputs : (s.tickDown).inputs = s.inputs := rfl
@[simp] theorem State.tickDown_params : (s.tickDown).params = s.params := rfl
@[simp] theorem State.tickDown_draws : (s.tickDown).draws = s.draws := rfl
@[simp] theorem State.tickDown_epoch : (s.tickDown).epoch = s.epoch := rfl

/-! ### startBytes -/

@[simp] theorem State.startBytes_done (p : Phase) : (s.startBytes p).done = s.done := rfl
@[simp] theorem State.startBytes_errBusy (p : Phase) : (s.startBytes p).errBusy = s.errBusy := rfl
@[simp] theorem State.startBytes_result (p : Phase) : (s.startBytes p).result = s.result := rfl
@[simp] theorem State.startBytes_irqEn (p : Phase) : (s.startBytes p).irqEn = s.irqEn := rfl
@[simp] theorem State.startBytes_ackTimeout (p : Phase) : (s.startBytes p).ackTimeout = s.ackTimeout := rfl
@[simp] theorem State.startBytes_retryDelay (p : Phase) : (s.startBytes p).retryDelay = s.retryDelay := rfl
@[simp] theorem State.startBytes_maxAttempts (p : Phase) : (s.startBytes p).maxAttempts = s.maxAttempts := rfl
@[simp] theorem State.startBytes_pollTimeout (p : Phase) : (s.startBytes p).pollTimeout = s.pollTimeout := rfl
@[simp] theorem State.startBytes_crcAcc (p : Phase) : (s.startBytes p).crcAcc = s.crcAcc := rfl
@[simp] theorem State.startBytes_dlLen (p : Phase) : (s.startBytes p).dlLen = s.dlLen := rfl
@[simp] theorem State.startBytes_respLen (p : Phase) : (s.startBytes p).respLen = s.respLen := rfl
@[simp] theorem State.startBytes_frameLen (p : Phase) : (s.startBytes p).frameLen = s.frameLen := rfl
@[simp] theorem State.startBytes_txbuf (p : Phase) : (s.startBytes p).txbuf = s.txbuf := rfl
@[simp] theorem State.startBytes_txframe (p : Phase) : (s.startBytes p).txframe = s.txframe := rfl
@[simp] theorem State.startBytes_rxwin (p : Phase) : (s.startBytes p).rxwin = s.rxwin := rfl
@[simp] theorem State.startBytes_dlslot (p : Phase) : (s.startBytes p).dlslot = s.dlslot := rfl
@[simp] theorem State.startBytes_respslot (p : Phase) : (s.startBytes p).respslot = s.respslot := rfl
@[simp] theorem State.startBytes_stg (p : Phase) : (s.startBytes p).stg = s.stg := rfl
@[simp] theorem State.startBytes_phase (p : Phase) : (s.startBytes p).phase = p := rfl
@[simp] theorem State.startBytes_op (p : Phase) : (s.startBytes p).op = s.op := rfl
@[simp] theorem State.startBytes_code (p : Phase) : (s.startBytes p).code = s.code := rfl
@[simp] theorem State.startBytes_len (p : Phase) : (s.startBytes p).len = s.len := rfl
@[simp] theorem State.startBytes_attempt (p : Phase) : (s.startBytes p).attempt = s.attempt := rfl
@[simp] theorem State.startBytes_pollsLeft (p : Phase) : (s.startBytes p).pollsLeft = s.pollsLeft := rfl
@[simp] theorem State.startBytes_polls (p : Phase) : (s.startBytes p).polls = s.polls := rfl
@[simp] theorem State.startBytes_timer (p : Phase) : (s.startBytes p).timer = s.timer := rfl
@[simp] theorem State.startBytes_idx (p : Phase) : (s.startBytes p).idx = 0#7 := rfl
@[simp] theorem State.startBytes_need (p : Phase) : (s.startBytes p).need = s.need := rfl
@[simp] theorem State.startBytes_taken (p : Phase) : (s.startBytes p).taken = s.taken := rfl
@[simp] theorem State.startBytes_rx (p : Phase) : (s.startBytes p).rx = s.rx := rfl
@[simp] theorem State.startBytes_wake (p : Phase) : (s.startBytes p).wake = s.wake := rfl
@[simp] theorem State.startBytes_reply (p : Phase) : (s.startBytes p).reply = s.reply := rfl
@[simp] theorem State.startBytes_chanRx (p : Phase) : (s.startBytes p).chanRx = s.chanRx := rfl
@[simp] theorem State.startBytes_chanTx (p : Phase) : (s.startBytes p).chanTx = s.chanTx := rfl
@[simp] theorem State.startBytes_wire (p : Phase) : (s.startBytes p).wire = s.wire := rfl
@[simp] theorem State.startBytes_inputs (p : Phase) : (s.startBytes p).inputs = s.inputs := rfl
@[simp] theorem State.startBytes_params (p : Phase) : (s.startBytes p).params = s.params := rfl
@[simp] theorem State.startBytes_draws (p : Phase) : (s.startBytes p).draws = s.draws := rfl
@[simp] theorem State.startBytes_epoch (p : Phase) : (s.startBytes p).epoch = s.epoch := rfl

/-! ### setCrc -/

@[simp] theorem State.setCrc_done (c : Crc) : (s.setCrc c).done = s.done := rfl
@[simp] theorem State.setCrc_errBusy (c : Crc) : (s.setCrc c).errBusy = s.errBusy := rfl
@[simp] theorem State.setCrc_result (c : Crc) : (s.setCrc c).result = s.result := rfl
@[simp] theorem State.setCrc_irqEn (c : Crc) : (s.setCrc c).irqEn = s.irqEn := rfl
@[simp] theorem State.setCrc_ackTimeout (c : Crc) : (s.setCrc c).ackTimeout = s.ackTimeout := rfl
@[simp] theorem State.setCrc_retryDelay (c : Crc) : (s.setCrc c).retryDelay = s.retryDelay := rfl
@[simp] theorem State.setCrc_maxAttempts (c : Crc) : (s.setCrc c).maxAttempts = s.maxAttempts := rfl
@[simp] theorem State.setCrc_pollTimeout (c : Crc) : (s.setCrc c).pollTimeout = s.pollTimeout := rfl
@[simp] theorem State.setCrc_crcAcc (c : Crc) : (s.setCrc c).crcAcc = c := rfl
@[simp] theorem State.setCrc_dlLen (c : Crc) : (s.setCrc c).dlLen = s.dlLen := rfl
@[simp] theorem State.setCrc_respLen (c : Crc) : (s.setCrc c).respLen = s.respLen := rfl
@[simp] theorem State.setCrc_frameLen (c : Crc) : (s.setCrc c).frameLen = s.frameLen := rfl
@[simp] theorem State.setCrc_txbuf (c : Crc) : (s.setCrc c).txbuf = s.txbuf := rfl
@[simp] theorem State.setCrc_txframe (c : Crc) : (s.setCrc c).txframe = s.txframe := rfl
@[simp] theorem State.setCrc_rxwin (c : Crc) : (s.setCrc c).rxwin = s.rxwin := rfl
@[simp] theorem State.setCrc_dlslot (c : Crc) : (s.setCrc c).dlslot = s.dlslot := rfl
@[simp] theorem State.setCrc_respslot (c : Crc) : (s.setCrc c).respslot = s.respslot := rfl
@[simp] theorem State.setCrc_stg (c : Crc) : (s.setCrc c).stg = s.stg := rfl
@[simp] theorem State.setCrc_phase (c : Crc) : (s.setCrc c).phase = s.phase := rfl
@[simp] theorem State.setCrc_op (c : Crc) : (s.setCrc c).op = s.op := rfl
@[simp] theorem State.setCrc_code (c : Crc) : (s.setCrc c).code = s.code := rfl
@[simp] theorem State.setCrc_len (c : Crc) : (s.setCrc c).len = s.len := rfl
@[simp] theorem State.setCrc_attempt (c : Crc) : (s.setCrc c).attempt = s.attempt := rfl
@[simp] theorem State.setCrc_pollsLeft (c : Crc) : (s.setCrc c).pollsLeft = s.pollsLeft := rfl
@[simp] theorem State.setCrc_polls (c : Crc) : (s.setCrc c).polls = s.polls := rfl
@[simp] theorem State.setCrc_timer (c : Crc) : (s.setCrc c).timer = s.timer := rfl
@[simp] theorem State.setCrc_idx (c : Crc) : (s.setCrc c).idx = s.idx := rfl
@[simp] theorem State.setCrc_need (c : Crc) : (s.setCrc c).need = s.need := rfl
@[simp] theorem State.setCrc_taken (c : Crc) : (s.setCrc c).taken = s.taken := rfl
@[simp] theorem State.setCrc_rx (c : Crc) : (s.setCrc c).rx = s.rx := rfl
@[simp] theorem State.setCrc_wake (c : Crc) : (s.setCrc c).wake = s.wake := rfl
@[simp] theorem State.setCrc_reply (c : Crc) : (s.setCrc c).reply = s.reply := rfl
@[simp] theorem State.setCrc_chanRx (c : Crc) : (s.setCrc c).chanRx = s.chanRx := rfl
@[simp] theorem State.setCrc_chanTx (c : Crc) : (s.setCrc c).chanTx = s.chanTx := rfl
@[simp] theorem State.setCrc_wire (c : Crc) : (s.setCrc c).wire = s.wire := rfl
@[simp] theorem State.setCrc_inputs (c : Crc) : (s.setCrc c).inputs = s.inputs := rfl
@[simp] theorem State.setCrc_params (c : Crc) : (s.setCrc c).params = s.params := rfl
@[simp] theorem State.setCrc_draws (c : Crc) : (s.setCrc c).draws = s.draws := rfl
@[simp] theorem State.setCrc_epoch (c : Crc) : (s.setCrc c).epoch = s.epoch := rfl

/-! ### stageByte -/

@[simp] theorem State.stageByte_done (b : Byte) (rest : List Byte) : (s.stageByte b rest).done = s.done := rfl
@[simp] theorem State.stageByte_errBusy (b : Byte) (rest : List Byte) : (s.stageByte b rest).errBusy = s.errBusy := rfl
@[simp] theorem State.stageByte_result (b : Byte) (rest : List Byte) : (s.stageByte b rest).result = s.result := rfl
@[simp] theorem State.stageByte_irqEn (b : Byte) (rest : List Byte) : (s.stageByte b rest).irqEn = s.irqEn := rfl
@[simp] theorem State.stageByte_ackTimeout (b : Byte) (rest : List Byte) : (s.stageByte b rest).ackTimeout = s.ackTimeout := rfl
@[simp] theorem State.stageByte_retryDelay (b : Byte) (rest : List Byte) : (s.stageByte b rest).retryDelay = s.retryDelay := rfl
@[simp] theorem State.stageByte_maxAttempts (b : Byte) (rest : List Byte) : (s.stageByte b rest).maxAttempts = s.maxAttempts := rfl
@[simp] theorem State.stageByte_pollTimeout (b : Byte) (rest : List Byte) : (s.stageByte b rest).pollTimeout = s.pollTimeout := rfl
@[simp] theorem State.stageByte_crcAcc (b : Byte) (rest : List Byte) : (s.stageByte b rest).crcAcc = s.crcAcc := rfl
@[simp] theorem State.stageByte_dlLen (b : Byte) (rest : List Byte) : (s.stageByte b rest).dlLen = s.dlLen := rfl
@[simp] theorem State.stageByte_respLen (b : Byte) (rest : List Byte) : (s.stageByte b rest).respLen = s.respLen := rfl
@[simp] theorem State.stageByte_frameLen (b : Byte) (rest : List Byte) : (s.stageByte b rest).frameLen = s.frameLen := rfl
@[simp] theorem State.stageByte_txbuf (b : Byte) (rest : List Byte) : (s.stageByte b rest).txbuf = s.txbuf := rfl
@[simp] theorem State.stageByte_txframe (b : Byte) (rest : List Byte) : (s.stageByte b rest).txframe = s.txframe := rfl
@[simp] theorem State.stageByte_rxwin (b : Byte) (rest : List Byte) : (s.stageByte b rest).rxwin = s.rxwin := rfl
@[simp] theorem State.stageByte_dlslot (b : Byte) (rest : List Byte) : (s.stageByte b rest).dlslot = s.dlslot := rfl
@[simp] theorem State.stageByte_respslot (b : Byte) (rest : List Byte) : (s.stageByte b rest).respslot = s.respslot := rfl
@[simp] theorem State.stageByte_stg (b : Byte) (rest : List Byte) : (s.stageByte b rest).stg = s.stg.write s.taken.toNat b := rfl
@[simp] theorem State.stageByte_phase (b : Byte) (rest : List Byte) : (s.stageByte b rest).phase = s.phase := rfl
@[simp] theorem State.stageByte_op (b : Byte) (rest : List Byte) : (s.stageByte b rest).op = s.op := rfl
@[simp] theorem State.stageByte_code (b : Byte) (rest : List Byte) : (s.stageByte b rest).code = s.code := rfl
@[simp] theorem State.stageByte_len (b : Byte) (rest : List Byte) : (s.stageByte b rest).len = s.len := rfl
@[simp] theorem State.stageByte_attempt (b : Byte) (rest : List Byte) : (s.stageByte b rest).attempt = s.attempt := rfl
@[simp] theorem State.stageByte_pollsLeft (b : Byte) (rest : List Byte) : (s.stageByte b rest).pollsLeft = s.pollsLeft := rfl
@[simp] theorem State.stageByte_polls (b : Byte) (rest : List Byte) : (s.stageByte b rest).polls = s.polls := rfl
@[simp] theorem State.stageByte_timer (b : Byte) (rest : List Byte) : (s.stageByte b rest).timer = s.timer := rfl
@[simp] theorem State.stageByte_idx (b : Byte) (rest : List Byte) : (s.stageByte b rest).idx = s.idx := rfl
@[simp] theorem State.stageByte_need (b : Byte) (rest : List Byte) : (s.stageByte b rest).need = s.need - 1#7 := rfl
@[simp] theorem State.stageByte_taken (b : Byte) (rest : List Byte) : (s.stageByte b rest).taken = s.taken + 1#7 := rfl
@[simp] theorem State.stageByte_rx (b : Byte) (rest : List Byte) : (s.stageByte b rest).rx = s.rx := rfl
@[simp] theorem State.stageByte_wake (b : Byte) (rest : List Byte) : (s.stageByte b rest).wake = s.wake := rfl
@[simp] theorem State.stageByte_reply (b : Byte) (rest : List Byte) : (s.stageByte b rest).reply = s.reply := rfl
@[simp] theorem State.stageByte_chanRx (b : Byte) (rest : List Byte) : (s.stageByte b rest).chanRx = rest := rfl
@[simp] theorem State.stageByte_chanTx (b : Byte) (rest : List Byte) : (s.stageByte b rest).chanTx = s.chanTx := rfl
@[simp] theorem State.stageByte_wire (b : Byte) (rest : List Byte) : (s.stageByte b rest).wire = s.wire := rfl
@[simp] theorem State.stageByte_inputs (b : Byte) (rest : List Byte) : (s.stageByte b rest).inputs = s.inputs := rfl
@[simp] theorem State.stageByte_params (b : Byte) (rest : List Byte) : (s.stageByte b rest).params = s.params := rfl
@[simp] theorem State.stageByte_draws (b : Byte) (rest : List Byte) : (s.stageByte b rest).draws = s.draws := rfl
@[simp] theorem State.stageByte_epoch (b : Byte) (rest : List Byte) : (s.stageByte b rest).epoch = s.epoch := rfl

/-! ### taking -/

@[simp] theorem State.taking_done (rest : List Event) : (s.taking rest).done = s.done := rfl
@[simp] theorem State.taking_errBusy (rest : List Event) : (s.taking rest).errBusy = s.errBusy := rfl
@[simp] theorem State.taking_result (rest : List Event) : (s.taking rest).result = s.result := rfl
@[simp] theorem State.taking_irqEn (rest : List Event) : (s.taking rest).irqEn = s.irqEn := rfl
@[simp] theorem State.taking_ackTimeout (rest : List Event) : (s.taking rest).ackTimeout = s.ackTimeout := rfl
@[simp] theorem State.taking_retryDelay (rest : List Event) : (s.taking rest).retryDelay = s.retryDelay := rfl
@[simp] theorem State.taking_maxAttempts (rest : List Event) : (s.taking rest).maxAttempts = s.maxAttempts := rfl
@[simp] theorem State.taking_pollTimeout (rest : List Event) : (s.taking rest).pollTimeout = s.pollTimeout := rfl
@[simp] theorem State.taking_crcAcc (rest : List Event) : (s.taking rest).crcAcc = s.crcAcc := rfl
@[simp] theorem State.taking_dlLen (rest : List Event) : (s.taking rest).dlLen = s.dlLen := rfl
@[simp] theorem State.taking_respLen (rest : List Event) : (s.taking rest).respLen = s.respLen := rfl
@[simp] theorem State.taking_frameLen (rest : List Event) : (s.taking rest).frameLen = s.frameLen := rfl
@[simp] theorem State.taking_txbuf (rest : List Event) : (s.taking rest).txbuf = s.txbuf := rfl
@[simp] theorem State.taking_txframe (rest : List Event) : (s.taking rest).txframe = s.txframe := rfl
@[simp] theorem State.taking_rxwin (rest : List Event) : (s.taking rest).rxwin = s.rxwin := rfl
@[simp] theorem State.taking_dlslot (rest : List Event) : (s.taking rest).dlslot = s.dlslot := rfl
@[simp] theorem State.taking_respslot (rest : List Event) : (s.taking rest).respslot = s.respslot := rfl
@[simp] theorem State.taking_stg (rest : List Event) : (s.taking rest).stg = s.stg := rfl
@[simp] theorem State.taking_phase (rest : List Event) : (s.taking rest).phase = s.phase := rfl
@[simp] theorem State.taking_op (rest : List Event) : (s.taking rest).op = s.op := rfl
@[simp] theorem State.taking_code (rest : List Event) : (s.taking rest).code = s.code := rfl
@[simp] theorem State.taking_len (rest : List Event) : (s.taking rest).len = s.len := rfl
@[simp] theorem State.taking_attempt (rest : List Event) : (s.taking rest).attempt = s.attempt := rfl
@[simp] theorem State.taking_pollsLeft (rest : List Event) : (s.taking rest).pollsLeft = s.pollsLeft := rfl
@[simp] theorem State.taking_polls (rest : List Event) : (s.taking rest).polls = s.polls := rfl
@[simp] theorem State.taking_timer (rest : List Event) : (s.taking rest).timer = s.timer := rfl
@[simp] theorem State.taking_idx (rest : List Event) : (s.taking rest).idx = s.idx := rfl
@[simp] theorem State.taking_need (rest : List Event) : (s.taking rest).need = s.need := rfl
@[simp] theorem State.taking_taken (rest : List Event) : (s.taking rest).taken = s.taken := rfl
@[simp] theorem State.taking_rx (rest : List Event) : (s.taking rest).rx = s.rx := rfl
@[simp] theorem State.taking_wake (rest : List Event) : (s.taking rest).wake = s.wake := rfl
@[simp] theorem State.taking_reply (rest : List Event) : (s.taking rest).reply = s.reply := rfl
@[simp] theorem State.taking_chanRx (rest : List Event) : (s.taking rest).chanRx = s.chanRx := rfl
@[simp] theorem State.taking_chanTx (rest : List Event) : (s.taking rest).chanTx = s.chanTx := rfl
@[simp] theorem State.taking_wire (rest : List Event) : (s.taking rest).wire = s.wire := rfl
@[simp] theorem State.taking_inputs (rest : List Event) : (s.taking rest).inputs = rest := rfl
@[simp] theorem State.taking_params (rest : List Event) : (s.taking rest).params = s.params := rfl
@[simp] theorem State.taking_draws (rest : List Event) : (s.taking rest).draws = s.draws := rfl
@[simp] theorem State.taking_epoch (rest : List Event) : (s.taking rest).epoch = s.epoch := rfl

end Sys2Proof.Machine
end

