-- ==== Sys2Proof/Laws/Memory.lean ====
section
/-! SUPPORT. What the operations of one byte buffer do: a read after a write, and the canonical form. -/

namespace Sys2Proof.Machine

/-! ### Reading after writing -/

@[simp] theorem Memory.read_nil (k : Nat) : Memory.read [] k = none := rfl

theorem Memory.read_insert (m : Memory) (k : Nat) (b : Byte) (j : Nat) :
    (m.insert k b).read j = if j = k then some b else m.read j := by
  induction m with
  | nil => simp only [Memory.insert, Memory.read]; split <;> simp_all [eq_comm]
  | cons c rest ih =>
    obtain ⟨a, x⟩ := c
    simp only [Memory.insert]
    split
    · simp only [Memory.read]; split <;> simp_all [eq_comm]
    · split
      · subst_vars; simp only [Memory.read]; split <;> simp_all [eq_comm]
      · simp only [Memory.read, ih]
        by_cases h : a = j
        · subst h; simp_all [eq_comm]
        · simp [h]

/-- A read after a write gives the byte written, and every other entry is as before. Indices past the buffer are
no entries. -/
theorem Memory.read_write (m : Memory) (k : Nat) (b : Byte) (j : Nat) :
    (m.write k b).read j = if j = k ∧ k < 64 then some b else m.read j := by
  by_cases hk : k < 64
  · simp [Memory.write, Config.frameMax, hk, Memory.read_insert]
  · simp [Memory.write, Config.frameMax, hk]

/-- A read after a write of consecutive bytes that fit the buffer. -/
theorem Memory.read_writeAll (m : Memory) (k : Nat) (bs : List Byte) (j : Nat) (fits : k + bs.length ≤ 64) :
    (m.writeAll k bs).read j = if k ≤ j ∧ j < k + bs.length then bs[j - k]? else m.read j := by
  induction bs generalizing m k with
  | nil => simp [Memory.writeAll]
  | cons b rest ih =>
    simp only [List.length_cons] at fits ⊢
    rw [Memory.writeAll, ih _ _ (by omega), Memory.read_write]
    by_cases h : j = k
    · subst h; simp; omega
    · by_cases h2 : k ≤ j ∧ j < k + (rest.length + 1)
      · have : k + 1 ≤ j ∧ j < k + 1 + rest.length := by omega
        rw [if_pos this, if_pos h2, show j - k = (j - (k + 1)) + 1 by omega, List.getElem?_cons_succ]
      · have : ¬ (k + 1 ≤ j ∧ j < k + 1 + rest.length) := by omega
        rw [if_neg this, if_neg h2, if_neg (by omega)]

/-! ### The canonical form -/

/-- The first index of a buffer, if it lists one. -/
def Memory.firstAbove (k : Nat) : Memory → Bool
  | [] => true
  | (a, _) :: _ => decide (k < a)

theorem Memory.ascending_cons (a : Nat) (b : Byte) (m : Memory) :
    Memory.ascending ((a, b) :: m) = (m.firstAbove a && m.ascending) := by
  cases m with
  | nil => rfl
  | cons c rest => rfl

theorem Memory.firstAbove_insert (m : Memory) (a k : Nat) (b : Byte) (h : m.firstAbove a = true) (hk : a < k) :
    (m.insert k b).firstAbove a = true := by
  cases m with
  | nil => simpa [Memory.insert, Memory.firstAbove] using hk
  | cons c rest =>
    obtain ⟨d, x⟩ := c
    simp only [Memory.insert]
    split
    · simpa [Memory.firstAbove] using hk
    · split
      · simpa [Memory.firstAbove] using hk
      · simpa [Memory.firstAbove] using h

theorem Memory.ascending_insert (m : Memory) (k : Nat) (b : Byte) (h : m.ascending = true) :
    (m.insert k b).ascending = true := by
  induction m with
  | nil => rfl
  | cons c rest ih =>
    obtain ⟨a, x⟩ := c
    rw [Memory.ascending_cons, Bool.and_eq_true] at h
    simp only [Memory.insert]
    split
    · rename_i hlt
      rw [Memory.ascending_cons, Memory.ascending_cons, h.1, h.2]
      simp [Memory.firstAbove, hlt]
    · split
      · subst_vars; rw [Memory.ascending_cons]; simp [h.1, h.2]
      · rw [Memory.ascending_cons, Memory.firstAbove_insert _ _ _ _ h.1 (by omega), ih h.2]; rfl

theorem Memory.all_insert (m : Memory) (k : Nat) (b : Byte) (p : Nat → Bool) (h : m.all (fun c => p c.1) = true)
    (hk : p k = true) : (m.insert k b).all (fun c => p c.1) = true := by
  induction m with
  | nil => simpa [Memory.insert] using hk
  | cons c rest ih =>
    obtain ⟨a, x⟩ := c
    simp only [List.all_cons, Bool.and_eq_true] at h
    simp only [Memory.insert]
    split
    · simp [hk, h.1]; simpa using h.2
    · split
      · simp [hk]; simpa using h.2
      · rw [List.all_cons, ih h.2]; simp [h.1]

/-- A write keeps the canonical form. -/
theorem Memory.wf_write (m : Memory) (k : Nat) (b : Byte) (h : m.wf = true) : (m.write k b).wf = true := by
  rw [Memory.write]
  split
  · rename_i hk
    rw [Memory.wf, Bool.and_eq_true] at h ⊢
    exact ⟨Memory.ascending_insert m k b h.1,
      Memory.all_insert m k b (fun a => decide (a < Config.frameMax)) h.2 (by simpa using hk)⟩
  · exact h

/-- A write of consecutive bytes keeps the canonical form. -/
theorem Memory.wf_writeAll (m : Memory) (k : Nat) (bs : List Byte) (h : m.wf = true) :
    (m.writeAll k bs).wf = true := by
  induction bs generalizing m k with
  | nil => exact h
  | cons b rest ih => exact ih _ _ (Memory.wf_write m k b h)

/-- A buffer with nothing listed is in canonical form: the reset contents of every buffer. -/
@[simp] theorem Memory.wf_nil : Memory.wf [] = true := rfl

/-! ### The bytes of a state -/

@[simp] theorem State.bytes_length (s : State) (b : Buffer) (lo n : Nat) : (s.bytes b lo n).length = n := by
  simp [State.bytes]

theorem State.getElem_bytes (s : State) (b : Buffer) (lo n i : Nat) (h : i < (s.bytes b lo n).length) :
    (s.bytes b lo n)[i] = s.byteAt b (lo + i) := by
  simp [State.bytes]

/-- Two states agree on a buffer's bytes when they hold the same contents and reset count. -/
theorem State.byteAt_congr {s t : State} (b : Buffer) (i : Nat) (h : s.buffer b = t.buffer b)
    (he : s.epoch = t.epoch) : s.byteAt b i = t.byteAt b i := by
  rw [State.byteAt, State.byteAt, h, he]

end Sys2Proof.Machine
end

