-- ==== Sys2Proof/Laws/Ops.lean ====
section
/-! SUPPORT. For each shared operation, once, everything it can do. -/

namespace Sys2Proof.Machine

/-! ### Starting an operation -/

theorem State.busy_iff (s : State) : s.busy = true ↔ s.phase ≠ .idle := by simp [State.busy]

theorem State.issue_busy (s : State) (op : Op) (code : Byte) (len : Nat) (run : State → State)
    (h : s.busy = true) : s.issue op code len run = s.refuse := by simp [State.issue, h]

theorem State.issue_idle (s : State) (op : Op) (code : Byte) (len : Nat) (run : State → State)
    (h : s.busy = false) : s.issue op code len run = run (s.accept op code len) := by simp [State.issue, h]

theorem State.issue_cases (s : State) (op : Op) (code : Byte) (len : Nat) (run : State → State) :
    (s.busy = true ∧ s.issue op code len run = s.refuse) ∨
    (s.busy = false ∧ s.issue op code len run = run (s.accept op code len)) := by
  cases h : s.busy
  · exact .inr ⟨rfl, State.issue_idle s op code len run h⟩
  · exact .inl ⟨rfl, State.issue_busy s op code len run h⟩

theorem State.illegal_cases (s : State) (opc : Byte) :
    (s.busy = true ∧ s.illegal opc = s.refuse) ∨
    (s.busy = false ∧ s.illegal opc = s.finish opc .illegalOp 0#8 0#8 false) := by
  cases h : s.busy <;> simp [State.illegal, h]

theorem State.guarded_cases (s : State) (write : State → State) :
    (s.busy = true ∧ s.guarded write = s.refuse) ∨ (s.busy = false ∧ s.guarded write = write s) := by
  cases h : s.busy <;> simp [State.guarded, h]

theorem State.buildThen_cases (s : State) (next : State → State) :
    (s.buildLegal = true ∧ s.buildThen next = next ((s.enter .build).putFrame s.builtFrame)) ∨
    (s.buildLegal = false ∧ s.buildThen next = s.complete .invalidArg 0#8 0#8 false) := by
  cases h : s.buildLegal <;> simp [State.buildThen, h]

/-! ### Waits -/

theorem State.countDown_cases (s : State) (done : State → State) :
    (s.timer - 1#24 = 0#24 ∧ s.countDown done = done s.tickDown) ∨
    (s.timer - 1#24 ≠ 0#24 ∧ s.countDown done = s.tickDown) := by
  by_cases h : s.timer - 1#24 = 0#24 <;> simp [State.countDown, h]

/-! ### Attempts of SEND_ACK -/

theorem State.attemptFailed_cases (s : State) :
    (s.attempt < s.maxAttempts ∧ s.retryDelay = 0#24 ∧ s.attemptFailed = (s.enter .retryWait).retry) ∨
    (s.attempt < s.maxAttempts ∧ s.retryDelay ≠ 0#24 ∧ s.attemptFailed = s.wait .retryWait s.retryDelay) ∨
    (¬ s.attempt < s.maxAttempts ∧
      s.attemptFailed = s.nextAttempt.complete .noAck 0#8 s.maxAttempts false) := by
  by_cases h : s.attempt < s.maxAttempts <;> by_cases h2 : s.retryDelay = 0#24 <;>
    simp [State.attemptFailed, h, h2]

theorem State.testAck_cases (s : State) :
    (s.typeByte = s.params.codes.respAck ∧ s.testAck = s.complete .ok s.params.codes.respAck s.attempt false) ∨
    (s.typeByte ≠ s.params.codes.respAck ∧ s.testAck = s.attemptFailed) := by
  by_cases h : s.typeByte = s.params.codes.respAck <;> simp [State.testAck, Codes.response, h]

theorem State.firstAttempt_cases (s : State) :
    (s.maxAttempts = 0#8 ∧
      s.firstAttempt = (s.setAttempt 1#8).complete .noAck 0#8 s.maxAttempts false) ∨
    (s.maxAttempts ≠ 0#8 ∧ s.firstAttempt = (s.setAttempt 1#8).beginTransmit) := by
  by_cases h : s.maxAttempts = 0#8 <;> simp [State.firstAttempt, h]

/-! ### Receives and polls -/

/-- What a receive without a frame does, by the running operation. -/
theorem State.receiveFailed_cases (s : State) (o : RxOutcome) :
    (s.op = .sendAck ∧ s.receiveFailed o = (s.setRx o).attemptFailed) ∨
    (s.op = .poll ∧ s.receiveFailed o = (s.setRx o).complete o.res 0#8 (countOf s.taken) false) ∨
    (s.op = .waitDl ∧ s.receiveFailed o = (s.setRx o).pollAgainLater) ∨
    ((s.op = .build ∨ s.op = .send ∨ s.op = .copyDl ∨ s.op = .copyResp) ∧
      s.receiveFailed o = (s.setRx o)) := by
  cases h : s.op <;> simp [State.receiveFailed, h]

theorem State.beginReceive_cases (s : State) (t : Ticks) :
    (t = 0#24 ∧
      s.beginReceive t = s.clearStage.receiveFailed .truncated) ∨
    (t ≠ 0#24 ∧
      s.beginReceive t = s.clearStage.startStage .rxHdr 3#7 t) := by
  by_cases h : t = 0#24 <;> simp [State.beginReceive, h]

theorem State.pollEmpty_cases (s : State) :
    (s.op = .poll ∧ s.pollEmpty = s.complete .empty 0#8 0#8 false) ∨
    (s.op = .waitDl ∧ s.pollEmpty = s.pollAgainLater) ∨
    ((s.op = .build ∨ s.op = .send ∨ s.op = .sendAck ∨ s.op = .copyDl ∨ s.op = .copyResp) ∧
      s.pollEmpty = s) := by
  cases h : s.op <;> simp [State.pollEmpty, h]

theorem State.beginPoll_cases (s : State) :
    (s.chanRx = [] ∧ s.beginPoll = s.pollEmpty) ∨
    (s.chanRx ≠ [] ∧ s.beginPoll = s.beginReceive s.pollTimeout) := by
  cases h : s.chanRx <;> simp [State.beginPoll, State.rxAvail, h]

theorem State.storeFrame_cases (s : State) :
    (s.typeByte = s.params.codes.respDownlink ∧
      s.storeFrame = (s.enter .store).putDownlink s.staged) ∨
    (s.typeByte ≠ s.params.codes.respDownlink ∧
      s.storeFrame = (s.enter .store).putResponse s.staged) := by
  by_cases h : s.typeByte = s.params.codes.respDownlink
  · exact .inl ⟨h, by simp [State.storeFrame, State.isDownlink, Codes.response, h]⟩
  · exact .inr ⟨h, by simp [State.storeFrame, State.isDownlink, Codes.response, h]⟩

/-- What a received frame does, by the running operation. -/
theorem State.receiveFrame_cases (s : State) :
    (s.op = .sendAck ∧ s.receiveFrame = (s.setRx .frame).testAck) ∨
    (s.op = .poll ∧ s.receiveFrame =
      ((s.setRx .frame).storeFrame.complete .ok s.typeByte (countOf s.taken) s.isDownlink)) ∨
    (s.op = .waitDl ∧ s.isDownlink = true ∧ s.receiveFrame =
      ((s.setRx .frame).storeFrame.countPoll.complete .ok s.typeByte
        s.countPoll.polls true)) ∨
    (s.op = .waitDl ∧ s.isDownlink = false ∧ s.receiveFrame =
      (s.setRx .frame).storeFrame.countPoll.beginPoll) ∨
    ((s.op = .build ∨ s.op = .send ∨ s.op = .copyDl ∨ s.op = .copyResp) ∧
      s.receiveFrame = (s.setRx .frame)) := by
  cases h : s.op <;> cases h2 : s.isDownlink <;> simp [State.receiveFrame, h, h2]

theorem State.firstPoll_cases (s : State) :
    (s.len = 0#8 ∧ s.firstPoll =
      (s.setBudget s.len).complete .waitExhausted 0#8 0#8 false) ∨
    (s.len ≠ 0#8 ∧ s.firstPoll = (s.setBudget s.len).beginPoll) := by
  by_cases h : s.len = 0#8 <;> simp [State.firstPoll, h]

/-! ### Read stages -/

theorem State.takeByte_cases (s : State) :
    (s.chanRx = [] ∧ s.takeByte = s) ∨
    (∃ b rest, s.chanRx = b :: rest ∧ s.takeByte =
      s.stageByte b rest) := by
  cases h : s.chanRx with
  | nil => exact .inl ⟨rfl, by simp [State.takeByte, h]⟩
  | cons b rest => exact .inr ⟨b, rest, rfl, by simp [State.takeByte, h]⟩

theorem State.beginBody_cases (s : State) :
    (s.window = 0#24 ∧ s.beginBody = (s.enter .rxBody).receiveFailed .truncated) ∨
    (s.window ≠ 0#24 ∧
      s.beginBody = (s.enter .rxBody).startStage .rxBody (s.declared.setWidth 7) s.window) := by
  by_cases h : s.window = 0#24 <;> simp [State.beginBody, h]

theorem State.checkFrame_cases (s : State) :
    (parse s.header s.body = none ∧ s.checkFrame = (s.enter .rxCheck).receiveFailed .crcMismatch) ∨
    (∃ f, parse s.header s.body = some f ∧ s.checkFrame = (s.enter .rxCheck).receiveFrame) := by
  cases h : parse s.header s.body with
  | none => exact .inl ⟨rfl, by simp [State.checkFrame, h]⟩
  | some f => exact .inr ⟨f, rfl, by simp [State.checkFrame, h]⟩

theorem State.stageComplete_cases (s : State) :
    (s.phase = .rxHdr ∧ lengthLegal s.declared = true ∧ s.stageComplete = s.beginBody) ∨
    (s.phase = .rxHdr ∧ lengthLegal s.declared = false ∧ s.stageComplete = s.receiveFailed .badLength) ∨
    (s.phase = .rxBody ∧ s.stageComplete = s.checkFrame) ∨
    (s.phase ≠ .rxHdr ∧ s.phase ≠ .rxBody ∧ s.stageComplete = s) := by
  cases h : s.phase <;> cases h2 : lengthLegal s.declared <;> simp [State.stageComplete, h, h2]

theorem State.stageTest_cases (s : State) (waiting : State → State) :
    (s.need = 0#7 ∧ s.stageTest waiting = s.stageComplete) ∨
    (s.need ≠ 0#7 ∧ s.stageTest waiting = waiting s) := by
  by_cases h : s.need = 0#7 <;> simp [State.stageTest, h]

/-! ### Events and steps -/

theorem State.coreStep_cases (s : State) :
    ((s.phase = .rxHdr ∨ s.phase = .rxBody) ∧
      s.coreStep = s.stageTest fun s => s.takeByte.stageTest id) ∨
    (s.phase = .txFlush ∧ s.coreStep = s.drained) ∨
    (s.phase ≠ .rxHdr ∧ s.phase ≠ .rxBody ∧ s.phase ≠ .txFlush ∧ s.coreStep = s) := by
  cases h : s.phase <;> simp [State.coreStep, h]

theorem State.onTick_cases (s : State) :
    (s.phase = .txSettle1 ∧ s.onTick = s.countDown State.beginBytes) ∨
    (s.phase = .txSettle2 ∧ s.onTick = s.countDown State.endTransmit) ∨
    (s.phase = .retryWait ∧ s.onTick = s.countDown State.retry) ∨
    (s.phase = .pollSleep ∧ s.onTick = s.countDown State.endSleep) ∨
    ((s.phase = .rxHdr ∨ s.phase = .rxBody) ∧ s.onTick = (s.takeBytes s.need.toNat).stageTest
      fun s => s.countDown fun s => s.receiveFailed .truncated) ∨
    (s.phase.counting = false ∧ s.onTick = s) := by
  cases h : s.phase <;> simp [State.onTick, h, Phase.counting]

/-- A step takes the core's own step, runs a decoded operation, or performs another event. -/
theorem step_cases (s : State) :
    (s.inputs = [] ∧ step s = .next s.coreStep) ∨
    (∃ b rest i, s.inputs = .write b :: rest ∧ decode b = .ok i ∧ step s = exec i (s.taking rest).written) ∨
    (∃ e rest, s.inputs = e :: rest ∧ e.operation = none ∧ step s = .next ((s.taking rest).perform e)) := by
  cases h : s.inputs with
  | nil => exact .inl ⟨rfl, by simp [step, h]⟩
  | cons e rest =>
    cases ho : e.operation with
    | none => exact .inr (.inr ⟨e, rest, rfl, ho, by simp [step, h, ho]⟩)
    | some i =>
      cases e with
      | write b =>
        cases hd : decode b with
        | error err => simp [Event.operation, hd] at ho
        | ok j =>
          have hj : j = i := by simpa [Event.operation, hd] using ho
          subst hj
          exact .inr (.inl ⟨b, rest, j, rfl, hd, by simp [step, h, ho]⟩)
      | _ => simp [Event.operation] at ho

/-- Every operation has a next state. -/
theorem exec_next (i : Instr) (s : State) : ∃ t, exec i s = .next t := by
  cases i <;> exact ⟨_, rfl⟩

end Sys2Proof.Machine
end

