-- ==== Sys2Proof/Laws/Codec.lean ====
section
/-! SUPPORT. The bounds of the codec and the shapes of its results. -/

namespace Sys2Proof.Machine

/-! ### Bounds -/

theorem payloadLegal_sendVld (n : Nat) : payloadLegal .sendVld n = true ↔ 1 ≤ n ∧ n ≤ 58 :=
  ⟨fun h => of_decide_eq_true h, fun h => decide_eq_true h⟩

theorem payloadLegal_inquire (n : Nat) : payloadLegal .inquire n = true ↔ n = 0 :=
  ⟨fun h => of_decide_eq_true h, fun h => decide_eq_true h⟩

theorem payloadLegal_setTest (n : Nat) : payloadLegal .setTest n = true ↔ n = 1 :=
  ⟨fun h => of_decide_eq_true h, fun h => decide_eq_true h⟩

/-- A legal payload fits the frame. -/
theorem payloadLegal_le {k : CommandClass} {n : Nat} (h : payloadLegal k n = true) : n ≤ 58 := by
  cases k
  · exact ((payloadLegal_sendVld n).mp h).2
  · have := (payloadLegal_inquire n).mp h; omega
  · have := (payloadLegal_setTest n).mp h; omega
  · cases h

/-- A legal declared length is 3 .. 61. -/
theorem lengthLegal_iff (d : Byte) : lengthLegal d = true ↔ 3 ≤ d.toNat ∧ d.toNat ≤ 61 :=
  ⟨fun h => of_decide_eq_true h, fun h => decide_eq_true h⟩

/-! ### Shapes -/

@[simp] theorem encodeFrame_length (c : Codes) (code : Byte) (p : List Byte) :
    (encodeFrame c code p).length = p.length + 6 := by
  simp [encodeFrame, frameBody, crcTrailer]

@[simp] theorem State.builtFrame_length (s : State) : s.builtFrame.length = s.len.toNat + 6 := by
  simp [State.builtFrame, State.payload]

@[simp] theorem State.staged_length (s : State) : s.staged.length = s.taken.toNat := by simp [State.staged]

/-- A 16-bit value is its high byte and its low byte. -/
theorem hiByte_append_loByte (c : Crc) : hiByte c ++ loByte c = c := by
  ext i hi
  rw [BitVec.getElem_append]
  split <;> simp [hiByte, loByte, show ¬ i < 8 → 8 + (i - 8) = i by omega, *]

end Sys2Proof.Machine
end

