-- ==== Sys2Proof/Laws/Frames.lean ====
section
/-! SUPPORT. What the running operation leaves unchanged: three groups of fields, and for every move of the sequencer
which groups it keeps. -/

namespace Sys2Proof.Machine

/-- The fields that only host accesses and the reset event write, with the model's own fields. -/
structure HostSide where
  errBusy : Bool
  irqEn : Bool
  ackTimeout : Ticks
  retryDelay : Ticks
  maxAttempts : Byte
  pollTimeout : Ticks
  crcAcc : Crc
  txbuf : Memory
  reply : Option BusReply
  inputs : List Event
  params : Params
  draws : Nat
  epoch : Nat

/-- The fields that only host accesses and the reset event write, with the model's own fields. -/
def State.hostSide (s : State) : HostSide where
  errBusy := s.errBusy
  irqEn := s.irqEn
  ackTimeout := s.ackTimeout
  retryDelay := s.retryDelay
  maxAttempts := s.maxAttempts
  pollTimeout := s.pollTimeout
  crcAcc := s.crcAcc
  txbuf := s.txbuf
  reply := s.reply
  inputs := s.inputs
  params := s.params
  draws := s.draws
  epoch := s.epoch

theorem State.hostSide_ext (s t : State) : s.hostSide = t.hostSide ↔ s.errBusy = t.errBusy ∧ s.irqEn = t.irqEn ∧ s.ackTimeout = t.ackTimeout ∧ s.retryDelay = t.retryDelay ∧ s.maxAttempts = t.maxAttempts ∧ s.pollTimeout = t.pollTimeout ∧ s.crcAcc = t.crcAcc ∧ s.txbuf = t.txbuf ∧ s.reply = t.reply ∧ s.inputs = t.inputs ∧ s.params = t.params ∧ s.draws = t.draws ∧ s.epoch = t.epoch := by
  simp [State.hostSide]

/-- The fields that only the start of an operation writes (R95). -/
structure OpSide where
  op : Op
  code : Byte
  len : Byte
  txframe : Memory
  frameLen : Len
  rxwin : Memory

/-- The fields that only the start of an operation writes (R95). -/
def State.opSide (s : State) : OpSide where
  op := s.op
  code := s.code
  len := s.len
  txframe := s.txframe
  frameLen := s.frameLen
  rxwin := s.rxwin

theorem State.opSide_ext (s t : State) : s.opSide = t.opSide ↔ s.op = t.op ∧ s.code = t.code ∧ s.len = t.len ∧ s.txframe = t.txframe ∧ s.frameLen = t.frameLen ∧ s.rxwin = t.rxwin := by
  simp [State.opSide]

/-- The two slots and their length markers (R45). -/
structure SlotSide where
  dlslot : Memory
  dlLen : Len
  respslot : Memory
  respLen : Len

/-- The two slots and their length markers (R45). -/
def State.slotSide (s : State) : SlotSide where
  dlslot := s.dlslot
  dlLen := s.dlLen
  respslot := s.respslot
  respLen := s.respLen

theorem State.slotSide_ext (s t : State) : s.slotSide = t.slotSide ↔ s.dlslot = t.dlslot ∧ s.dlLen = t.dlLen ∧ s.respslot = t.respslot ∧ s.respLen = t.respLen := by
  simp [State.slotSide]

variable (s : State)

@[simp] theorem State.setWake_hostSide (level : Bool) : (s.setWake level).hostSide = s.hostSide := rfl
@[simp] theorem State.setWake_opSide (level : Bool) : (s.setWake level).opSide = s.opSide := rfl
@[simp] theorem State.setWake_slotSide (level : Bool) : (s.setWake level).slotSide = s.slotSide := rfl
@[simp] theorem State.enter_hostSide (p : Phase) : (s.enter p).hostSide = s.hostSide := rfl
@[simp] theorem State.enter_opSide (p : Phase) : (s.enter p).opSide = s.opSide := rfl
@[simp] theorem State.enter_slotSide (p : Phase) : (s.enter p).slotSide = s.slotSide := rfl
@[simp] theorem State.wait_hostSide (p : Phase) (n : Ticks) : (s.wait p n).hostSide = s.hostSide := rfl
@[simp] theorem State.wait_opSide (p : Phase) (n : Ticks) : (s.wait p n).opSide = s.opSide := rfl
@[simp] theorem State.wait_slotSide (p : Phase) (n : Ticks) : (s.wait p n).slotSide = s.slotSide := rfl
@[simp] theorem State.startStage_hostSide (p : Phase) (n : Len) (t : Ticks) : (s.startStage p n t).hostSide = s.hostSide := rfl
@[simp] theorem State.startStage_opSide (p : Phase) (n : Len) (t : Ticks) : (s.startStage p n t).opSide = s.opSide := rfl
@[simp] theorem State.startStage_slotSide (p : Phase) (n : Len) (t : Ticks) : (s.startStage p n t).slotSide = s.slotSide := rfl
@[simp] theorem State.finish_hostSide (opc : Byte) (res : Res) (rcode count : Byte) (cls : Bool) : (s.finish opc res rcode count cls).hostSide = s.hostSide := rfl
@[simp] theorem State.finish_opSide (opc : Byte) (res : Res) (rcode count : Byte) (cls : Bool) : (s.finish opc res rcode count cls).opSide = s.opSide := rfl
@[simp] theorem State.finish_slotSide (opc : Byte) (res : Res) (rcode count : Byte) (cls : Bool) : (s.finish opc res rcode count cls).slotSide = s.slotSide := rfl
@[simp] theorem State.complete_hostSide (res : Res) (rcode count : Byte) (cls : Bool) : (s.complete res rcode count cls).hostSide = s.hostSide := rfl
@[simp] theorem State.complete_opSide (res : Res) (rcode count : Byte) (cls : Bool) : (s.complete res rcode count cls).opSide = s.opSide := rfl
@[simp] theorem State.complete_slotSide (res : Res) (rcode count : Byte) (cls : Bool) : (s.complete res rcode count cls).slotSide = s.slotSide := rfl
@[simp] theorem State.setRx_hostSide (o : RxOutcome) : (s.setRx o).hostSide = s.hostSide := rfl
@[simp] theorem State.setRx_opSide (o : RxOutcome) : (s.setRx o).opSide = s.opSide := rfl
@[simp] theorem State.setRx_slotSide (o : RxOutcome) : (s.setRx o).slotSide = s.slotSide := rfl
@[simp] theorem State.clearStage_hostSide : (s.clearStage).hostSide = s.hostSide := rfl
@[simp] theorem State.clearStage_opSide : (s.clearStage).opSide = s.opSide := rfl
@[simp] theorem State.clearStage_slotSide : (s.clearStage).slotSide = s.slotSide := rfl
@[simp] theorem State.setAttempt_hostSide (n : Byte) : (s.setAttempt n).hostSide = s.hostSide := rfl
@[simp] theorem State.setAttempt_opSide (n : Byte) : (s.setAttempt n).opSide = s.opSide := rfl
@[simp] theorem State.setAttempt_slotSide (n : Byte) : (s.setAttempt n).slotSide = s.slotSide := rfl
@[simp] theorem State.nextAttempt_hostSide : (s.nextAttempt).hostSide = s.hostSide := rfl
@[simp] theorem State.nextAttempt_opSide : (s.nextAttempt).opSide = s.opSide := rfl
@[simp] theorem State.nextAttempt_slotSide : (s.nextAttempt).slotSide = s.slotSide := rfl
@[simp] theorem State.setBudget_hostSide (n : Byte) : (s.setBudget n).hostSide = s.hostSide := rfl
@[simp] theorem State.setBudget_opSide (n : Byte) : (s.setBudget n).opSide = s.opSide := rfl
@[simp] theorem State.setBudget_slotSide (n : Byte) : (s.setBudget n).slotSide = s.slotSide := rfl
@[simp] theorem State.spendBudget_hostSide : (s.spendBudget).hostSide = s.hostSide := rfl
@[simp] theorem State.spendBudget_opSide : (s.spendBudget).opSide = s.opSide := rfl
@[simp] theorem State.spendBudget_slotSide : (s.spendBudget).slotSide = s.slotSide := rfl
@[simp] theorem State.countPoll_hostSide : (s.countPoll).hostSide = s.hostSide := rfl
@[simp] theorem State.countPoll_opSide : (s.countPoll).opSide = s.opSide := rfl
@[simp] theorem State.countPoll_slotSide : (s.countPoll).slotSide = s.slotSide := rfl
@[simp] theorem State.tickDown_hostSide : (s.tickDown).hostSide = s.hostSide := rfl
@[simp] theorem State.tickDown_opSide : (s.tickDown).opSide = s.opSide := rfl
@[simp] theorem State.tickDown_slotSide : (s.tickDown).slotSide = s.slotSide := rfl
@[simp] theorem State.startBytes_hostSide (p : Phase) : (s.startBytes p).hostSide = s.hostSide := rfl
@[simp] theorem State.startBytes_opSide (p : Phase) : (s.startBytes p).opSide = s.opSide := rfl
@[simp] theorem State.startBytes_slotSide (p : Phase) : (s.startBytes p).slotSide = s.slotSide := rfl
@[simp] theorem State.stageByte_hostSide (b : Byte) (rest : List Byte) : (s.stageByte b rest).hostSide = s.hostSide := rfl
@[simp] theorem State.stageByte_opSide (b : Byte) (rest : List Byte) : (s.stageByte b rest).opSide = s.opSide := rfl
@[simp] theorem State.stageByte_slotSide (b : Byte) (rest : List Byte) : (s.stageByte b rest).slotSide = s.slotSide := rfl
@[simp] theorem State.putByte_hostSide (b : Byte) : (s.putByte b).hostSide = s.hostSide := rfl
@[simp] theorem State.putByte_opSide (b : Byte) : (s.putByte b).opSide = s.opSide := rfl
@[simp] theorem State.putByte_slotSide (b : Byte) : (s.putByte b).slotSide = s.slotSide := rfl
@[simp] theorem State.beginTransmit_hostSide : (s.beginTransmit).hostSide = s.hostSide := rfl
@[simp] theorem State.beginTransmit_opSide : (s.beginTransmit).opSide = s.opSide := rfl
@[simp] theorem State.beginTransmit_slotSide : (s.beginTransmit).slotSide = s.slotSide := rfl
@[simp] theorem State.retry_hostSide : (s.retry).hostSide = s.hostSide := rfl
@[simp] theorem State.retry_opSide : (s.retry).opSide = s.opSide := rfl
@[simp] theorem State.retry_slotSide : (s.retry).slotSide = s.slotSide := rfl
@[simp] theorem State.pollAgainLater_hostSide : (s.pollAgainLater).hostSide = s.hostSide := rfl
@[simp] theorem State.pollAgainLater_opSide : (s.pollAgainLater).opSide = s.opSide := rfl
@[simp] theorem State.pollAgainLater_slotSide : (s.pollAgainLater).slotSide = s.slotSide := rfl
@[simp] theorem State.accept_hostSide (o : Op) (c : Byte) (l : Nat) : (s.accept o c l).hostSide = s.hostSide := rfl
@[simp] theorem State.accept_slotSide (o : Op) (c : Byte) (l : Nat) : (s.accept o c l).slotSide = s.slotSide := rfl
@[simp] theorem State.putFrame_hostSide (f : List Byte) : (s.putFrame f).hostSide = s.hostSide := rfl
@[simp] theorem State.putFrame_slotSide (f : List Byte) : (s.putFrame f).slotSide = s.slotSide := rfl
@[simp] theorem State.putWindow_hostSide (f : List Byte) : (s.putWindow f).hostSide = s.hostSide := rfl
@[simp] theorem State.putWindow_slotSide (f : List Byte) : (s.putWindow f).slotSide = s.slotSide := rfl
@[simp] theorem State.putDownlink_hostSide (f : List Byte) : (s.putDownlink f).hostSide = s.hostSide := rfl
@[simp] theorem State.putDownlink_opSide (f : List Byte) : (s.putDownlink f).opSide = s.opSide := rfl
@[simp] theorem State.putResponse_hostSide (f : List Byte) : (s.putResponse f).hostSide = s.hostSide := rfl
@[simp] theorem State.putResponse_opSide (f : List Byte) : (s.putResponse f).opSide = s.opSide := rfl
@[simp] theorem State.refuse_opSide : (s.refuse).opSide = s.opSide := rfl
@[simp] theorem State.refuse_slotSide : (s.refuse).slotSide = s.slotSide := rfl
@[simp] theorem State.answer_opSide (r : BusReply) : (s.answer r).opSide = s.opSide := rfl
@[simp] theorem State.answer_slotSide (r : BusReply) : (s.answer r).slotSide = s.slotSide := rfl
@[simp] theorem State.taking_opSide (rest : List Event) : (s.taking rest).opSide = s.opSide := rfl
@[simp] theorem State.taking_slotSide (rest : List Event) : (s.taking rest).slotSide = s.slotSide := rfl
@[simp] theorem State.setCrc_opSide (c : Crc) : (s.setCrc c).opSide = s.opSide := rfl
@[simp] theorem State.setCrc_slotSide (c : Crc) : (s.setCrc c).slotSide = s.slotSide := rfl
@[simp] theorem State.clearFlags_opSide (d e : Bool) : (s.clearFlags d e).opSide = s.opSide := rfl
@[simp] theorem State.clearFlags_slotSide (d e : Bool) : (s.clearFlags d e).slotSide = s.slotSide := rfl
@[simp] theorem State.putTxbuf_opSide (i : Nat) (b : Byte) : (s.putTxbuf i b).opSide = s.opSide := rfl
@[simp] theorem State.putTxbuf_slotSide (i : Nat) (b : Byte) : (s.putTxbuf i b).slotSide = s.slotSide := rfl

@[simp] theorem State.attemptFailed_hostSide : (s.attemptFailed).hostSide = s.hostSide := by
  rcases s.attemptFailed_cases with ⟨-, -, h⟩ | ⟨-, -, h⟩ | ⟨-, h⟩ <;> simp [h]
@[simp] theorem State.attemptFailed_opSide : (s.attemptFailed).opSide = s.opSide := by
  rcases s.attemptFailed_cases with ⟨-, -, h⟩ | ⟨-, -, h⟩ | ⟨-, h⟩ <;> simp [h]
@[simp] theorem State.attemptFailed_slotSide : (s.attemptFailed).slotSide = s.slotSide := by
  rcases s.attemptFailed_cases with ⟨-, -, h⟩ | ⟨-, -, h⟩ | ⟨-, h⟩ <;> simp [h]
@[simp] theorem State.testAck_hostSide : (s.testAck).hostSide = s.hostSide := by
  rcases s.testAck_cases with ⟨-, h⟩ | ⟨-, h⟩ <;> simp [h]
@[simp] theorem State.testAck_opSide : (s.testAck).opSide = s.opSide := by
  rcases s.testAck_cases with ⟨-, h⟩ | ⟨-, h⟩ <;> simp [h]
@[simp] theorem State.testAck_slotSide : (s.testAck).slotSide = s.slotSide := by
  rcases s.testAck_cases with ⟨-, h⟩ | ⟨-, h⟩ <;> simp [h]
@[simp] theorem State.receiveFailed_hostSide (o : RxOutcome) : (s.receiveFailed o).hostSide = s.hostSide := by
  rcases s.receiveFailed_cases o with ⟨-, h⟩ | ⟨-, h⟩ | ⟨-, h⟩ | ⟨-, h⟩ <;> simp [h]
@[simp] theorem State.receiveFailed_opSide (o : RxOutcome) : (s.receiveFailed o).opSide = s.opSide := by
  rcases s.receiveFailed_cases o with ⟨-, h⟩ | ⟨-, h⟩ | ⟨-, h⟩ | ⟨-, h⟩ <;> simp [h]
@[simp] theorem State.receiveFailed_slotSide (o : RxOutcome) : (s.receiveFailed o).slotSide = s.slotSide := by
  rcases s.receiveFailed_cases o with ⟨-, h⟩ | ⟨-, h⟩ | ⟨-, h⟩ | ⟨-, h⟩ <;> simp [h]
@[simp] theorem State.beginReceive_hostSide (t : Ticks) : (s.beginReceive t).hostSide = s.hostSide := by
  rcases s.beginReceive_cases t with ⟨-, h⟩ | ⟨-, h⟩ <;> simp [h]
@[simp] theorem State.beginReceive_opSide (t : Ticks) : (s.beginReceive t).opSide = s.opSide := by
  rcases s.beginReceive_cases t with ⟨-, h⟩ | ⟨-, h⟩ <;> simp [h]
@[simp] theorem State.beginReceive_slotSide (t : Ticks) : (s.beginReceive t).slotSide = s.slotSide := by
  rcases s.beginReceive_cases t with ⟨-, h⟩ | ⟨-, h⟩ <;> simp [h]
@[simp] theorem State.pollEmpty_hostSide : (s.pollEmpty).hostSide = s.hostSide := by
  rcases s.pollEmpty_cases with ⟨-, h⟩ | ⟨-, h⟩ | ⟨-, h⟩ <;> simp [h]
@[simp] theorem State.pollEmpty_opSide : (s.pollEmpty).opSide = s.opSide := by
  rcases s.pollEmpty_cases with ⟨-, h⟩ | ⟨-, h⟩ | ⟨-, h⟩ <;> simp [h]
@[simp] theorem State.pollEmpty_slotSide : (s.pollEmpty).slotSide = s.slotSide := by
  rcases s.pollEmpty_cases with ⟨-, h⟩ | ⟨-, h⟩ | ⟨-, h⟩ <;> simp [h]
@[simp] theorem State.beginPoll_hostSide : (s.beginPoll).hostSide = s.hostSide := by
  rcases s.beginPoll_cases with ⟨-, h⟩ | ⟨-, h⟩ <;> simp [h]
@[simp] theorem State.beginPoll_opSide : (s.beginPoll).opSide = s.opSide := by
  rcases s.beginPoll_cases with ⟨-, h⟩ | ⟨-, h⟩ <;> simp [h]
@[simp] theorem State.beginPoll_slotSide : (s.beginPoll).slotSide = s.slotSide := by
  rcases s.beginPoll_cases with ⟨-, h⟩ | ⟨-, h⟩ <;> simp [h]
@[simp] theorem State.storeFrame_hostSide : (s.storeFrame).hostSide = s.hostSide := by
  rcases s.storeFrame_cases with ⟨-, h⟩ | ⟨-, h⟩ <;> simp [h]
@[simp] theorem State.storeFrame_opSide : (s.storeFrame).opSide = s.opSide := by
  rcases s.storeFrame_cases with ⟨-, h⟩ | ⟨-, h⟩ <;> simp [h]
@[simp] theorem State.receiveFrame_hostSide : (s.receiveFrame).hostSide = s.hostSide := by
  rcases s.receiveFrame_cases with ⟨-, h⟩ | ⟨-, h⟩ | ⟨-, -, h⟩ | ⟨-, -, h⟩ | ⟨-, h⟩ <;> simp [h]
@[simp] theorem State.receiveFrame_opSide : (s.receiveFrame).opSide = s.opSide := by
  rcases s.receiveFrame_cases with ⟨-, h⟩ | ⟨-, h⟩ | ⟨-, -, h⟩ | ⟨-, -, h⟩ | ⟨-, h⟩ <;> simp [h]
@[simp] theorem State.takeByte_hostSide : (s.takeByte).hostSide = s.hostSide := by
  rcases s.takeByte_cases with ⟨-, h⟩ | ⟨b, rest, -, h⟩ <;> simp [h]
@[simp] theorem State.takeByte_opSide : (s.takeByte).opSide = s.opSide := by
  rcases s.takeByte_cases with ⟨-, h⟩ | ⟨b, rest, -, h⟩ <;> simp [h]
@[simp] theorem State.takeByte_slotSide : (s.takeByte).slotSide = s.slotSide := by
  rcases s.takeByte_cases with ⟨-, h⟩ | ⟨b, rest, -, h⟩ <;> simp [h]
@[simp] theorem State.takeBytes_hostSide (n : Nat) : (s.takeBytes n).hostSide = s.hostSide := by
  induction n generalizing s with
  | zero => rfl
  | succ n ih => simp [State.takeBytes, ih]
@[simp] theorem State.takeBytes_opSide (n : Nat) : (s.takeBytes n).opSide = s.opSide := by
  induction n generalizing s with
  | zero => rfl
  | succ n ih => simp [State.takeBytes, ih]
@[simp] theorem State.takeBytes_slotSide (n : Nat) : (s.takeBytes n).slotSide = s.slotSide := by
  induction n generalizing s with
  | zero => rfl
  | succ n ih => simp [State.takeBytes, ih]
@[simp] theorem State.beginBody_hostSide : (s.beginBody).hostSide = s.hostSide := by
  rcases s.beginBody_cases with ⟨-, h⟩ | ⟨-, h⟩ <;> simp [h]
@[simp] theorem State.beginBody_opSide : (s.beginBody).opSide = s.opSide := by
  rcases s.beginBody_cases with ⟨-, h⟩ | ⟨-, h⟩ <;> simp [h]
@[simp] theorem State.beginBody_slotSide : (s.beginBody).slotSide = s.slotSide := by
  rcases s.beginBody_cases with ⟨-, h⟩ | ⟨-, h⟩ <;> simp [h]
@[simp] theorem State.checkFrame_hostSide : (s.checkFrame).hostSide = s.hostSide := by
  rcases s.checkFrame_cases with ⟨-, h⟩ | ⟨f, -, h⟩ <;> simp [h]
@[simp] theorem State.checkFrame_opSide : (s.checkFrame).opSide = s.opSide := by
  rcases s.checkFrame_cases with ⟨-, h⟩ | ⟨f, -, h⟩ <;> simp [h]
@[simp] theorem State.stageComplete_hostSide : (s.stageComplete).hostSide = s.hostSide := by
  rcases s.stageComplete_cases with ⟨-, -, h⟩ | ⟨-, -, h⟩ | ⟨-, h⟩ | ⟨-, -, h⟩ <;> simp [h]
@[simp] theorem State.stageComplete_opSide : (s.stageComplete).opSide = s.opSide := by
  rcases s.stageComplete_cases with ⟨-, -, h⟩ | ⟨-, -, h⟩ | ⟨-, h⟩ | ⟨-, -, h⟩ <;> simp [h]
@[simp] theorem State.beginBytes_hostSide : (s.beginBytes).hostSide = s.hostSide := by
  simp only [State.beginBytes]; split <;> rfl
@[simp] theorem State.beginBytes_opSide : (s.beginBytes).opSide = s.opSide := by
  simp only [State.beginBytes]; split <;> rfl
@[simp] theorem State.beginBytes_slotSide : (s.beginBytes).slotSide = s.slotSide := by
  simp only [State.beginBytes]; split <;> rfl
@[simp] theorem State.acceptByte_hostSide : (s.acceptByte).hostSide = s.hostSide := by
  simp only [State.acceptByte]; split
  · split <;> rfl
  · rfl
@[simp] theorem State.acceptByte_opSide : (s.acceptByte).opSide = s.opSide := by
  simp only [State.acceptByte]; split
  · split <;> rfl
  · rfl
@[simp] theorem State.acceptByte_slotSide : (s.acceptByte).slotSide = s.slotSide := by
  simp only [State.acceptByte]; split
  · split <;> rfl
  · rfl
@[simp] theorem State.drained_hostSide : (s.drained).hostSide = s.hostSide := by
  simp only [State.drained]; split <;> rfl
@[simp] theorem State.drained_opSide : (s.drained).opSide = s.opSide := by
  simp only [State.drained]; split <;> rfl
@[simp] theorem State.drained_slotSide : (s.drained).slotSide = s.slotSide := by
  simp only [State.drained]; split <;> rfl
@[simp] theorem State.sendOldest_hostSide : (s.sendOldest).hostSide = s.hostSide := by
  simp only [State.sendOldest]; split <;> rfl
@[simp] theorem State.sendOldest_opSide : (s.sendOldest).opSide = s.opSide := by
  simp only [State.sendOldest]; split <;> rfl
@[simp] theorem State.sendOldest_slotSide : (s.sendOldest).slotSide = s.slotSide := by
  simp only [State.sendOldest]; split <;> rfl
@[simp] theorem State.endTransmit_hostSide : (s.endTransmit).hostSide = s.hostSide := by
  cases h : s.op <;> simp [State.endTransmit, h]
@[simp] theorem State.endTransmit_opSide : (s.endTransmit).opSide = s.opSide := by
  cases h : s.op <;> simp [State.endTransmit, h]
@[simp] theorem State.endTransmit_slotSide : (s.endTransmit).slotSide = s.slotSide := by
  cases h : s.op <;> simp [State.endTransmit, h]
@[simp] theorem State.endSleep_hostSide : (s.endSleep).hostSide = s.hostSide := by
  simp only [State.endSleep]; split <;> simp
@[simp] theorem State.endSleep_opSide : (s.endSleep).opSide = s.opSide := by
  simp only [State.endSleep]; split <;> simp
@[simp] theorem State.endSleep_slotSide : (s.endSleep).slotSide = s.slotSide := by
  simp only [State.endSleep]; split <;> simp
theorem State.countDown_hostSide (k : State → State) (hk : ∀ u : State, (k u).hostSide = u.hostSide) :
    (s.countDown k).hostSide = s.hostSide := by
  rcases s.countDown_cases k with ⟨-, h⟩ | ⟨-, h⟩ <;> simp [h, hk]
theorem State.stageTest_hostSide (k : State → State) (hk : ∀ u : State, (k u).hostSide = u.hostSide) :
    (s.stageTest k).hostSide = s.hostSide := by
  rcases s.stageTest_cases k with ⟨-, h⟩ | ⟨-, h⟩ <;> simp [h, hk]
@[simp] theorem State.coreStep_hostSide : s.coreStep.hostSide = s.hostSide := by
  rcases s.coreStep_cases with ⟨-, h⟩ | ⟨-, h⟩ | ⟨-, -, -, h⟩
  · rw [h]
    exact State.stageTest_hostSide s _ fun u => (State.stageTest_hostSide _ _ fun _ => rfl).trans (by simp)
  · simp [h]
  · rw [h]
@[simp] theorem State.onTick_hostSide : s.onTick.hostSide = s.hostSide := by
  rcases s.onTick_cases with ⟨-, h⟩ | ⟨-, h⟩ | ⟨-, h⟩ | ⟨-, h⟩ | ⟨-, h⟩ | ⟨-, h⟩
  · rw [h]; exact State.countDown_hostSide s _ fun u => by simp
  · rw [h]; exact State.countDown_hostSide s _ fun u => by simp
  · rw [h]; exact State.countDown_hostSide s _ fun u => by simp
  · rw [h]; exact State.countDown_hostSide s _ fun u => by simp
  · rw [h]
    refine (State.stageTest_hostSide _ _ fun u => State.countDown_hostSide u _ fun v => by simp).trans (by simp)
  · rw [h]
theorem State.countDown_opSide (k : State → State) (hk : ∀ u : State, (k u).opSide = u.opSide) :
    (s.countDown k).opSide = s.opSide := by
  rcases s.countDown_cases k with ⟨-, h⟩ | ⟨-, h⟩ <;> simp [h, hk]
theorem State.stageTest_opSide (k : State → State) (hk : ∀ u : State, (k u).opSide = u.opSide) :
    (s.stageTest k).opSide = s.opSide := by
  rcases s.stageTest_cases k with ⟨-, h⟩ | ⟨-, h⟩ <;> simp [h, hk]
@[simp] theorem State.coreStep_opSide : s.coreStep.opSide = s.opSide := by
  rcases s.coreStep_cases with ⟨-, h⟩ | ⟨-, h⟩ | ⟨-, -, -, h⟩
  · rw [h]
    exact State.stageTest_opSide s _ fun u => (State.stageTest_opSide _ _ fun _ => rfl).trans (by simp)
  · simp [h]
  · rw [h]
@[simp] theorem State.onTick_opSide : s.onTick.opSide = s.opSide := by
  rcases s.onTick_cases with ⟨-, h⟩ | ⟨-, h⟩ | ⟨-, h⟩ | ⟨-, h⟩ | ⟨-, h⟩ | ⟨-, h⟩
  · rw [h]; exact State.countDown_opSide s _ fun u => by simp
  · rw [h]; exact State.countDown_opSide s _ fun u => by simp
  · rw [h]; exact State.countDown_opSide s _ fun u => by simp
  · rw [h]; exact State.countDown_opSide s _ fun u => by simp
  · rw [h]
    refine (State.stageTest_opSide _ _ fun u => State.countDown_opSide u _ fun v => by simp).trans (by simp)
  · rw [h]

end Sys2Proof.Machine
end

