-- ==== Sys2Proof/Laws/PerInstr.lean ====
section
/-! SUPPORT. The statements made once for each instruction. -/

namespace Sys2Proof.Laws

/-- The offset, mask and match of an instruction's row in spec/opcode_table.json. A CMD row is a write to CMD with
the mask 0xFF0000FF, and a bus write row fixes no bit of the word written. -/
def TableMatch.row : Instr → Offset × Word × Word
  | .build _ _ => (0x000#10, 0xFF0000FF#32, 0x00000001#32)
  | .send _ _ => (0x000#10, 0xFF0000FF#32, 0x00000002#32)
  | .sendAck _ _ => (0x000#10, 0xFF0000FF#32, 0x00000003#32)
  | .poll _ _ => (0x000#10, 0xFF0000FF#32, 0x00000004#32)
  | .copyDl _ _ => (0x000#10, 0xFF0000FF#32, 0x00000005#32)
  | .copyResp _ _ => (0x000#10, 0xFF0000FF#32, 0x00000006#32)
  | .waitDl _ _ => (0x000#10, 0xFF0000FF#32, 0x00000007#32)
  | .crcSeed _ => (0x020#10, 0x00000000#32, 0x00000000#32)
  | .crcByte _ => (0x024#10, 0x00000000#32, 0x00000000#32)

/-- The encoding of an instruction is a bus write to the offset of its table row, and the bits of the row's mask are
those of its match. -/
def TableMatch.Statement (i : Instr) : Prop :=
  (encode i).offset = (TableMatch.row i).1 ∧ (encode i).data &&& (TableMatch.row i).2.1 = (TableMatch.row i).2.2

/-- The bits of a CMD word outside CODE and LEN are OP and zeros. -/
theorem cmdWord_and_mask (op : Op) (code : Byte) (len : Nat) :
    cmdWord op code len &&& 0xFF0000FF#32 = 0#24 ++ op.byte := by
  simp only [cmdWord]
  generalize op.byte = o
  generalize BitVec.ofNat 8 len = n
  apply BitVec.eq_of_getLsbD_eq
  intro i hi
  simp only [BitVec.getLsbD_and, BitVec.getLsbD_append]
  interval_cases i <;> simp

theorem TableMatch.build (code : Byte) (len : Nat) : TableMatch.Statement (.build code len) :=
  ⟨rfl, cmdWord_and_mask .build code len⟩

theorem TableMatch.send (code : Byte) (len : Nat) : TableMatch.Statement (.send code len) :=
  ⟨rfl, cmdWord_and_mask .send code len⟩

theorem TableMatch.sendAck (code : Byte) (len : Nat) : TableMatch.Statement (.sendAck code len) :=
  ⟨rfl, cmdWord_and_mask .sendAck code len⟩

theorem TableMatch.poll (code : Byte) (len : Nat) : TableMatch.Statement (.poll code len) :=
  ⟨rfl, cmdWord_and_mask .poll code len⟩

theorem TableMatch.copyDl (code : Byte) (maxSize : Nat) : TableMatch.Statement (.copyDl code maxSize) :=
  ⟨rfl, cmdWord_and_mask .copyDl code maxSize⟩

theorem TableMatch.copyResp (code : Byte) (maxSize : Nat) : TableMatch.Statement (.copyResp code maxSize) :=
  ⟨rfl, cmdWord_and_mask .copyResp code maxSize⟩

theorem TableMatch.waitDl (code : Byte) (maxPollAttempts : Nat) :
    TableMatch.Statement (.waitDl code maxPollAttempts) :=
  ⟨rfl, cmdWord_and_mask .waitDl code maxPollAttempts⟩

theorem TableMatch.crcSeed (data : Word) : TableMatch.Statement (.crcSeed data) := ⟨rfl, by simp [TableMatch.row]⟩

theorem TableMatch.crcByte (data : Word) : TableMatch.Statement (.crcByte data) := ⟨rfl, by simp [TableMatch.row]⟩

end Sys2Proof.Laws
end

