-- ==== Sys2Proof/Machine/Script.lean ====
section
/-! DEFINITION. The host script notation (R116) and the expansions of its pseudo-instructions (R117), as the bus accesses
that a schedule holds. -/

namespace Sys2Proof.Machine

/-- The address at which the host sees an offset of the block (R91, R116; log 6). -/
def hostAddress (p : Params) (a : Offset) : Nat := p.base + a.toNat

/-- One statement of the host script notation (R116, R117). -/
inductive Statement where
  /-- `WR <REG>, <value>`. -/
  | wr (r : Reg) (value : Word)
  /-- `RD <REG>`. -/
  | rd (r : Reg)
  /-- An operation mnemonic with its operands. -/
  | run (i : Instr)
  /-- `LOADPAY b0, ..., b(n-1)`. -/
  | loadPay (payload : List Byte)
  /-- `WAITDONE`, with the number of reads that the repetition makes until it sees DONE = 1. -/
  | waitDone (reads : Nat)
  /-- `ACKDONE`. -/
  | ackDone
  /-- `CRC16 b0, ..., b(n-1)`. -/
  | crc16 (bytes : List Byte)
deriving DecidableEq, Repr

/-- `WR <REG>, <value>` (R116). -/
def writeTo (r : Reg) (value : Word) : Event := .write ⟨r.offset, value⟩

/-- The bus accesses of a statement, in order (R116, R117). -/
def Statement.accesses : Statement → List Event
  | .wr r value => [writeTo r value]
  | .rd r => [.read r.offset]
  | .run i => [.write (encode i)]
  | .loadPay payload => payload.zipIdx.map fun p => writeTo (.txbuf (BitVec.ofNat 6 p.2)) (byteWord p.1)
  | .waitDone reads => List.replicate reads (.read Reg.status.offset)
  | .ackDone => [writeTo .status 0x00000002#32]
  | .crc16 bytes => writeTo .crcAcc 0#32 :: bytes.map (fun b => writeTo .crcData (byteWord b)) ++ [.read Reg.crcAcc.offset]

end Sys2Proof.Machine
end

