-- ==== Sys2Proof/Tests/Slice0.lean ====
section
/-! SUPPORT. Tests: the well-formedness smoke tests, decoding of words written out bit by bit, one-step tests with the
values of spec/95_test_vectors.md, and for every statement with hypotheses a state that meets them. -/

namespace Sys2Proof.Tests

open Sys2Proof Sys2Proof.Machine

set_option maxRecDepth 20000

/-! ### Helpers -/

/-- The reset state with the test profile (R11). -/
def idleState : State := { State.reset with params := Config.testParams }

/-- A state with a schedule. -/
def scheduled (events : List Event) (s : State) : State := { s with inputs := events }

/-- A state with bytes in the channel's RX buffer. -/
def receiving (bytes : List Byte) (s : State) : State := { s with chanRx := bytes }

/-- The outcome is a next state in which `p` holds. -/
def nextHas (o : Host.Outcome State Fault Refusal) (p : State → Bool) : Bool :=
  match o with
  | .next t => p t
  | .fault _ => false
  | .refused _ => false

/-- A running POLL in its header stage, with one tick left. -/
def pollState : State :=
  { idleState with phase := .rxHdr, op := .poll, need := 3#7, timer := 1#24 }

/-- A running SEND in TX_BYTES, before the last byte of a six-byte frame. -/
def sendState : State :=
  { idleState with
    phase := .txBytes, op := .send, wake := false, idx := 5#7, frameLen := 6#7
    txframe := Memory.writeAll [] 0 [0xFA#8, 0xF5#8, 0x03#8, 0xA2#8, 0xC0#8, 0xFB#8] }

/-- A POLL in its body stage, before the last byte of a downlink frame of six bytes (V-P5). -/
def bodyState : State :=
  { idleState with
    phase := .rxBody, op := .poll, taken := 5#7, need := 1#7, timer := 1#24, chanRx := [0xA9#8]
    stg := Memory.writeAll [] 0 [0xFA#8, 0xF5#8, 0x03#8, 0xB1#8, 0xE2#8] }

/-- An attempt of SEND_ACK at the start of its receive, the ACK frame of V-A1 in the channel. -/
def ackState (attempt : Byte) (delay : Ticks) (body : List Byte) : State :=
  { idleState with
    phase := .rxHdr, op := .sendAck, need := 3#7, timer := 1#24, attempt := attempt, retryDelay := delay
    chanRx := [0xFA#8, 0xF5#8, 0x03#8] ++ body }

/-- A WAIT_DL at the start of a receive. -/
def waitState (body rest : List Byte) : State :=
  { idleState with
    phase := .rxHdr, op := .waitDl, need := 3#7, timer := 1#24, polls := 253#8, pollsLeft := 1#8
    chanRx := [0xFA#8, 0xF5#8, 0x03#8] ++ body ++ rest }

/-! ### WellFormed refuses each ill-formed term -/

theorem test_wf_len_of_build : (Instr.build 0#8 256).wellFormed = false ∧ (Instr.build 0#8 255).wellFormed = true := by decide
theorem test_wf_len_of_send : (Instr.send 0#8 256).wellFormed = false ∧ (Instr.send 0#8 255).wellFormed = true := by decide
theorem test_wf_len_of_sendAck : (Instr.sendAck 0#8 256).wellFormed = false ∧ (Instr.sendAck 0#8 255).wellFormed = true := by decide
theorem test_wf_len_of_poll : (Instr.poll 0#8 256).wellFormed = false ∧ (Instr.poll 0#8 255).wellFormed = true := by decide
theorem test_wf_len_of_copyDl : (Instr.copyDl 0#8 256).wellFormed = false ∧ (Instr.copyDl 0#8 255).wellFormed = true := by decide
theorem test_wf_len_of_copyResp : (Instr.copyResp 0#8 256).wellFormed = false ∧ (Instr.copyResp 0#8 255).wellFormed = true := by decide
theorem test_wf_len_of_waitDl : (Instr.waitDl 0#8 256).wellFormed = false ∧ (Instr.waitDl 0#8 255).wellFormed = true := by decide
theorem test_wf_test_profile : Config.testParams.wellFormed = true := by decide
theorem test_wf_duplicate_command : { Config.testCodes with cmdSetTest := 0xA1#8 }.wellFormed = false := by decide
theorem test_wf_downlink_is_ack : { Config.testCodes with respAck := 0xB1#8 }.wellFormed = false := by decide
theorem test_wf_tick_period : { Config.testParams with tickPeriod := 0 }.wellFormed = false := by decide

/-! ### Decoding of words written out from R110, R111, R160 and R161: RSV, LEN, CODE, OP -/

theorem test_decode_build :
    decode ⟨0x000#10, 0b00000000#8 ++ 0b00000011#8 ++ 0b10100001#8 ++ 0b00000001#8⟩ = .ok (.build 0xA1#8 3) := by rfl
theorem test_decode_send :
    decode ⟨0x000#10, 0b00000000#8 ++ 0b00111010#8 ++ 0b10100010#8 ++ 0b00000010#8⟩ = .ok (.send 0xA2#8 58) := by rfl
theorem test_decode_sendAck :
    decode ⟨0x000#10, 0b00000000#8 ++ 0b00000001#8 ++ 0b10100111#8 ++ 0b00000011#8⟩ = .ok (.sendAck 0xA7#8 1) := by rfl
theorem test_decode_poll :
    decode ⟨0x000#10, 0b00000000#8 ++ 0b10000000#8 ++ 0b00000001#8 ++ 0b00000100#8⟩ = .ok (.poll 0x01#8 128) := by rfl
theorem test_decode_copyDl :
    decode ⟨0x000#10, 0b00000000#8 ++ 0b00000100#8 ++ 0b00000000#8 ++ 0b00000101#8⟩ = .ok (.copyDl 0#8 4) := by rfl
theorem test_decode_copyResp :
    decode ⟨0x000#10, 0b00000000#8 ++ 0b11111111#8 ++ 0b00000000#8 ++ 0b00000110#8⟩ = .ok (.copyResp 0#8 255) := by rfl
theorem test_decode_waitDl :
    decode ⟨0x000#10, 0b00000000#8 ++ 0b00000011#8 ++ 0b00000000#8 ++ 0b00000111#8⟩ = .ok (.waitDl 0#8 3) := by rfl
theorem test_decode_crcSeed :
    decode ⟨0b0000100000#10, 0xABCD1234#32⟩ = .ok (.crcSeed 0xABCD1234#32) := by rfl
theorem test_decode_crcByte :
    decode ⟨0b0000100100#10, 0xFFFFFF56#32⟩ = .ok (.crcByte 0xFFFFFF56#32) := by rfl
theorem test_decode_refuses :
    decode ⟨0x000#10, 0x01000004#32⟩ = .error .reservedBits ∧ decode ⟨0x000#10, 0x00000000#32⟩ = .error .illegalOp ∧
    decode ⟨0x000#10, 0x00000008#32⟩ = .error .illegalOp ∧ decode ⟨0x000#10, 0x000000FF#32⟩ = .error .illegalOp ∧
    decode ⟨0x022#10, 0#32⟩ = .error .misaligned ∧ decode ⟨0x040#10, 0#32⟩ = .error .unmapped ∧
    decode ⟨0x3FC#10, 0#32⟩ = .error (.registerWrite (.rxwin 63#6)) := by
  refine ⟨?_, ?_, ?_, ?_, ?_, ?_, ?_⟩ <;> rfl
theorem test_decodeTableWord :
    decodeTableWord 32 0x00FFA107 = some (.waitDl 0xA1#8 255) ∧ decodeTableWord 16 0x020 = some (.crcSeed 0#32) ∧
    decodeTableWord 16 0x024 = some (.crcByte 0#32) ∧ decodeTableWord 32 0x01000001 = none := by
  refine ⟨?_, ?_, ?_, ?_⟩ <;> rfl
theorem test_withFetchWord_runs :
    nextHas (step (idleState.withFetchWord 32 0x00000004)) (fun t => t.result.word == 0x04000004#32) = true := by rfl

/-! ### One step of each instruction, values of spec/95_test_vectors.md -/

/-- V-B1. -/
theorem test_build :
    nextHas (exec (.build 0xA1#8 3) { idleState with txbuf := [(0, 1#8), (1, 2#8), (2, 3#8)] }) (fun t =>
      t.result.word == 0x01090001#32 &&
      t.bytes .txframe 0 9 == [0xFA#8, 0xF5#8, 0x06#8, 0xA1#8, 0x01#8, 0x02#8, 0x03#8, 0x30#8, 0x76#8]) = true := by
  decide
/-- V-B14. -/
theorem test_build_too_long :
    nextHas (exec (.build 0xA1#8 59) idleState) (fun t => t.result.word == 0x01000002#32 && t.frameLen == 0#7) = true := by
  decide
/-- V-S1, its first step. -/
theorem test_send :
    nextHas (exec (.send 0xA2#8 0) idleState) (fun t =>
      t.bytes .txframe 0 6 == [0xFA#8, 0xF5#8, 0x03#8, 0xA2#8, 0xC0#8, 0xFB#8] &&
      t.wake == false && t.timer == 20#24 && t.busy) = true := by decide
/-- V-S3. -/
theorem test_send_empty_payload :
    nextHas (exec (.send 0xA1#8 0) idleState) (fun t => t.result.word == 0x02000002#32 && t.wake) = true := by
  decide
/-- V-A4. -/
theorem test_sendAck_zero_attempts :
    nextHas (exec (.sendAck 0xA1#8 3) { idleState with maxAttempts := 0#8 }) (fun t =>
      t.result.word == 0x03000003#32 && t.frameLen == 9#7 && t.wake) = true := by decide
/-- V-A1, its last byte. -/
theorem test_sendAck_acknowledged :
    nextHas (step { bodyState with
      op := .sendAck, attempt := 1#8, chanRx := [0xCA#8]
      stg := Memory.writeAll [] 0 [0xFA#8, 0xF5#8, 0x03#8, 0xB2#8, 0xD2#8] }) (fun t =>
      t.result.word == 0x0301B201#32 && t.respLen == 0#7) = true := by decide
/-- V-P1. -/
theorem test_poll_empty :
    nextHas (exec (.poll 0#8 0) idleState) (fun t => t.result.word == 0x04000004#32) = true := by decide
/-- V-P5, its last byte. -/
theorem test_poll_downlink :
    nextHas (step bodyState) (fun t =>
      t.result.word == 0x0406B111#32 && t.dlLen == 6#7 && t.byteAt .dlslot 5 == 0xA9#8 && t.respLen == 0#7) = true := by
  decide
/-- V-C1. -/
theorem test_copyDl_truncates :
    nextHas (exec (.copyDl 0#8 4) { idleState with
      dlLen := 10#7
      dlslot := Memory.writeAll [] 0 [0xFA#8, 0xF5#8, 0x07#8, 0xB1#8, 0xDE#8, 0xAD#8, 0xBE#8, 0xEF#8, 0x88#8, 0x79#8] })
      (fun t => t.result.word == 0x05040001#32 && t.rxwin == [(0, 0xFA#8), (1, 0xF5#8), (2, 0x07#8), (3, 0xB1#8)] &&
        t.dlLen == 10#7) = true := by decide
/-- V-C4. -/
theorem test_copyResp :
    nextHas (exec (.copyResp 0#8 255) { idleState with
      respLen := 6#7, respslot := Memory.writeAll [] 0 [0xFA#8, 0xF5#8, 0x03#8, 0xB2#8, 0xD2#8, 0xCA#8]
      rxwin := [(6, 0x99#8)] })
      (fun t => t.result.word == 0x06060001#32 && t.byteAt .rxwin 5 == 0xCA#8 && t.byteAt .rxwin 6 == 0x99#8) = true := by
  decide
/-- V-W3. -/
theorem test_waitDl_zero_budget :
    nextHas (exec (.waitDl 0#8 0) idleState) (fun t => t.result.word == 0x07000008#32) = true := by decide
/-- V-W2, the tick that ends its last sleep. -/
theorem test_waitDl_exhausted :
    nextHas (step (scheduled [.tick] { idleState with
      phase := .pollSleep, op := .waitDl, timer := 1#24, polls := 2#8, pollsLeft := 1#8 }))
      (fun t => t.result.word == 0x07020008#32) = true := by decide
/-- V-X28, the seed. -/
theorem test_crcSeed :
    nextHas (exec (.crcSeed 0xABCD1234#32) idleState) (fun t => t.crcAcc == 0x1234#16) = true := by decide
/-- V-X28, the byte. -/
theorem test_crcByte :
    nextHas (exec (.crcByte 0xFFFFFF56#32) { idleState with crcAcc := 0x1234#16 }) (fun t => t.crcAcc == 0x3C40#16)
      = true := by decide

/-! ### The host script notation, expansions of R117 -/

/-- The first lines of P2 and P1. -/
theorem test_script_expansions :
    (Statement.loadPay [0x01#8, 0x02#8]).accesses = [.write ⟨0x100#10, 1#32⟩, .write ⟨0x104#10, 2#32⟩] ∧
    (Statement.run (.sendAck 0xA1#8 3)).accesses = [.write ⟨0x000#10, 0x0003A103#32⟩] ∧
    Statement.ackDone.accesses = [.write ⟨0x004#10, 2#32⟩] ∧
    (Statement.crc16 [0x31#8]).accesses = [.write ⟨0x020#10, 0#32⟩, .write ⟨0x024#10, 0x31#32⟩, .read 0x020#10] := by
  refine ⟨?_, ?_, ?_, ?_⟩ <;> rfl

/-! ### What the statements' hypotheses are met by -/

theorem test_witness_CommandClassesAreDisjoint :
    Config.testCodes.wellFormed = true ∧ (0xB2#8 : Byte) ∉ Config.testCodes.outbound := by decide

theorem test_witness_legal_payloads :
    payloadLegal .sendVld 1 = true ∧ payloadLegal .sendVld 58 = true ∧ payloadLegal .inquire 0 = true ∧
    payloadLegal .setTest 1 = true ∧ payloadLegal .sendVld 0 = false ∧ payloadLegal .sendVld 59 = false := by decide

/-- For the layout, the round trip and the single-bit errors: the shortest and the longest payloads. -/
theorem test_witness_encoded_frames :
    payloadLegal (classify Config.testCodes 0xA2#8) ([] : List Byte).length = true ∧
    payloadLegal (classify Config.testCodes 0xA7#8) [0x01#8].length = true ∧
    payloadLegal (classify Config.testCodes 0xA1#8) (List.replicate 58 0x55#8).length = true ∧
    3 ≤ 3 ∧ 63 < (List.replicate 58 0x55#8).length + 6 ∧ 7 < 8 := by decide

theorem test_witness_MarkersAreNotChecked :
    [0xFA#8, 0xF5#8, 0x03#8].length = 3 ∧ (parse [0xFA#8, 0xF5#8, 0x03#8] [0xB2#8, 0xD2#8, 0xCA#8]).isSome = true := by
  decide

theorem test_witness_DecodeAfterEncode :
    (Instr.build 0xFF#8 255).wellFormed = true ∧ (Instr.send 0xFF#8 255).wellFormed = true ∧
    (Instr.sendAck 0xFF#8 255).wellFormed = true ∧ (Instr.poll 0xFF#8 255).wellFormed = true ∧
    (Instr.copyDl 0xFF#8 255).wellFormed = true ∧ (Instr.copyResp 0xFF#8 255).wellFormed = true ∧
    (Instr.waitDl 0xFF#8 255).wellFormed = true ∧ (Instr.crcSeed 0xFFFFFFFF#32).wellFormed = true ∧
    (Instr.crcByte 0xFFFFFFFF#32).wellFormed = true := by decide

theorem test_witness_EncodeAfterDecode :
    decode ⟨0x000#10, 0x00FFFF07#32⟩ = .ok (.waitDl 0xFF#8 255) ∧
    decode ⟨0x024#10, 0xFFFFFFFF#32⟩ = .ok (.crcByte 0xFFFFFFFF#32) := by constructor <;> rfl

theorem test_witness_AddressDecodeInvertsTheMap :
    aligned 0x03C#10 = true ∧ registerAt 0x03C#10 = none ∧ aligned 0x0FC#10 = true ∧ registerAt 0x0FC#10 = none ∧
    aligned 0x038#10 = true ∧ registerAt 0x038#10 = some .config2 ∧
    aligned 0x100#10 = true ∧ registerAt 0x100#10 = some (.txbuf 0#6) ∧
    aligned 0x3FC#10 = true ∧ registerAt 0x3FC#10 = some (.rxwin 63#6) := by decide

theorem test_witness_StepRunsTheDecodedInstruction :
    (scheduled [.write ⟨0x000#10, 0x00000004#32⟩] idleState).inputs = .write ⟨0x000#10, 0x00000004#32⟩ :: [] ∧
    decode ⟨0x000#10, 0x00000004#32⟩ = .ok (.poll 0#8 0) := by constructor <;> rfl

theorem test_witness_CrcWrites :
    (scheduled [.write ⟨0x020#10, 5#32⟩] pollState).inputs = .write ⟨0x020#10, 5#32⟩ :: [] ∧
    (scheduled [.write ⟨0x024#10, 5#32⟩] pollState).inputs = .write ⟨0x024#10, 5#32⟩ :: [] := by constructor <;> rfl

theorem test_witness_HostCrcUnitComputesTheCrc :
    (scheduled [.write ⟨0x020#10, 0#32⟩, .write ⟨0x024#10, 0xFFFFFF31#32⟩, .read 0x020#10] idleState).inputs =
      .write ⟨0x020#10, 0#32⟩ :: [0x31#8].map (fun b => Event.write ⟨0x024#10, 0xFFFFFF#24 ++ b⟩) ++ .read 0x020#10 :: [] := by
  rfl

/-- For the statements about every step: an event other than those they name, with a next state. -/
theorem test_witness_step_over_tick :
    ∃ t, step (scheduled [.tick] pollState) = .next t ∧ (scheduled [.tick] pollState).nextEvent = some .tick ∧
      (scheduled [.tick] pollState).busy = true := ⟨_, rfl, rfl, rfl⟩

theorem test_witness_BuildWritesTheFrame :
    idleState.phase = .idle ∧ 58 < 256 ∧ payloadLegal (classify idleState.params.codes 0xA1#8) 58 = true ∧
    payloadLegal (classify idleState.params.codes 0xA6#8) 0 = true ∧ idleState.maxAttempts ≠ 0#8 ∧
    { idleState with maxAttempts := 0#8 }.maxAttempts = 0#8 ∧ { idleState with maxAttempts := 0#8 }.phase = .idle := by
  decide

theorem test_witness_IllegalPayloadIsInvalidArg :
    idleState.phase = .idle ∧ payloadLegal (classify idleState.params.codes 0xA1#8) 0 = false ∧
    payloadLegal (classify idleState.params.codes 0xA1#8) 255 = false ∧
    payloadLegal (classify idleState.params.codes 0xB2#8) 0 = false := by decide

theorem test_witness_SendTransmitsTheFrameOnce :
    (scheduled (.write (encode (.send 0xA2#8 0)) :: bracketEvents 6) idleState).phase = .idle ∧
    (scheduled (.write (encode (.send 0xA2#8 0)) :: bracketEvents 6) idleState).chanTx = [] ∧
    payloadLegal (classify idleState.params.codes 0xA2#8) 0 = true ∧
    (scheduled (.write (encode (.send 0xA2#8 0)) :: bracketEvents 6) idleState).inputs =
      .write (encode (.send 0xA2#8 0)) :: bracketEvents (0 + 6) ++ [] :=
  ⟨rfl, rfl, by decide, by simp [scheduled]⟩

/-- Two attempts, with the window and the delay at 0 and at 1. -/
theorem test_witness_SilentChannelExhaustsTheAttempts (T D : Ticks) (_ : T = 0#24 ∨ T = 1#24) (_ : D = 0#24 ∨ D = 1#24) :
    ∃ s : State, s.phase = .idle ∧ s.chanTx = [] ∧ s.chanRx = [] ∧ s.maxAttempts ≠ 0#8 ∧ s.ackTimeout = T ∧
      s.retryDelay = D ∧ payloadLegal (classify s.params.codes 0xA2#8) 0 = true ∧
      s.inputs = .write (encode (.sendAck 0xA2#8 0))
        :: silentAttempts (0 + 6) s.ackTimeout.toNat s.retryDelay.toNat s.maxAttempts.toNat ++ [] :=
  ⟨{ idleState with
      maxAttempts := 2#8, ackTimeout := T, retryDelay := D
      inputs := .write (encode (.sendAck 0xA2#8 0)) :: silentAttempts 6 T.toNat D.toNat 2 ++ [] },
    rfl, rfl, rfl, (by decide : (2#8 : Byte) ≠ 0#8), rfl, rfl,
    (by decide : payloadLegal (classify Config.testCodes 0xA2#8) 0 = true), rfl⟩

/-- The ACK, another frame and a bad CRC, each in the first and in the last of three attempts, without and with a
delay. -/
theorem test_witness_AttemptEndsByItsFrame :
    (ackState 1#8 0#24 [0xB2#8, 0xD2#8, 0xCA#8]).phase = .rxHdr ∧
    (ackState 1#8 0#24 [0xB2#8, 0xD2#8, 0xCA#8]).ackTimeout ≠ 0#24 ∧
    (ackState 1#8 0#24 [0xB2#8, 0xD2#8, 0xCA#8]).inputs = [] ∧
    ((parse [0xFA#8, 0xF5#8, 0x03#8] [0xB2#8, 0xD2#8, 0xCA#8]).map Frame.type) = some Config.testCodes.respAck ∧
    ((parse [0xFA#8, 0xF5#8, 0x03#8] [0xB5#8, 0xA2#8, 0x2D#8]).map Frame.type) = some 0xB5#8 ∧
    (0xB5#8 : Byte) ≠ Config.testCodes.respAck ∧
    parse [0xFA#8, 0xF5#8, 0x03#8] [0xB2#8, 0xD2#8, 0xCB#8] = none ∧
    lengthLegal 0x03#8 = true ∧
    (ackState 2#8 0#24 []).attempt < (ackState 2#8 0#24 []).maxAttempts ∧ (ackState 2#8 0#24 []).retryDelay = 0#24 ∧
    (ackState 2#8 1#24 []).retryDelay ≠ 0#24 ∧
    (ackState 3#8 1#24 []).maxAttempts ≤ (ackState 3#8 1#24 []).attempt := by decide

/-- Bad declared lengths 0, 2, 62 and 255, a stage one byte short in the header and in the body, and a zero window. -/
theorem test_witness_attempts_without_a_frame :
    lengthLegal ([0xFA#8, 0xF5#8, 0x00#8].getD 2 0#8) = false ∧ lengthLegal ([0xFA#8, 0xF5#8, 0xFF#8].getD 2 0#8) = false ∧
    { ackState 1#8 0#24 [] with chanRx := [0xFA#8, 0xF5#8, 0x3E#8] ++ [1#8] }.need = 3#7 ∧
    { scheduled [.tick] (ackState 1#8 0#24 []) with chanRx := [0xFA#8, 0xF5#8] }.phase.receiving = true ∧
    [0xFA#8, 0xF5#8].length < (ackState 1#8 0#24 []).need.toNat ∧ (ackState 1#8 0#24 []).timer = 1#24 ∧
    { scheduled [.tick] bodyState with op := .sendAck, chanRx := [] }.chanRx.length < bodyState.need.toNat ∧
    { scheduled [.tick] sendState with
      phase := .txSettle2, op := .sendAck, timer := 1#24, ackTimeout := 0#24 }.inputs = .tick :: [] := by decide

theorem test_witness_PollBegins :
    idleState.phase = .idle ∧ idleState.chanRx = [] ∧ (receiving [0xFA#8] idleState).chanRx ≠ [] ∧
    (receiving [0xFA#8] idleState).pollTimeout ≠ 0#24 ∧
    { receiving [0xFA#8] idleState with pollTimeout := 0#24 }.pollTimeout = 0#24 := by decide

/-- A downlink (V-P5), a response (V-P3), a bad CRC, and bad lengths 2 and 62, each with a byte behind. -/
theorem test_witness_Poll_frames :
    (delimited [0xFA#8, 0xF5#8, 0x03#8] [0xB1#8, 0xE2#8, 0xA9#8]) ∧
    (parse [0xFA#8, 0xF5#8, 0x03#8] [0xB1#8, 0xE2#8, 0xA9#8]).map Frame.type = some Config.testCodes.respDownlink ∧
    (parse [0xFA#8, 0xF5#8, 0x03#8] [0xB2#8, 0xD2#8, 0xCA#8]).map Frame.type = some 0xB2#8 ∧
    parse [0xFA#8, 0xF5#8, 0x03#8] [0xB2#8, 0xD2#8, 0xCB#8] = none ∧
    lengthLegal ([0xFA#8, 0xF5#8, 0x02#8].getD 2 0#8) = false ∧ lengthLegal ([0xFA#8, 0xF5#8, 0x3E#8].getD 2 0#8) = false ∧
    lengthLegal 0x3D#8 = true := by
  refine ⟨⟨rfl, rfl, rfl⟩, ?_⟩
  decide

theorem test_witness_Poll_schedule :
    (scheduled [.write (encode (.poll 0#8 255))] (receiving ([0xFA#8, 0xF5#8, 0x03#8] ++ [0xB1#8, 0xE2#8, 0xA9#8] ++ [7#8])
      idleState)).chanRx = [0xFA#8, 0xF5#8, 0x03#8] ++ [0xB1#8, 0xE2#8, 0xA9#8] ++ [7#8] ∧
    (scheduled [.write (encode (.poll 0#8 255))] idleState).inputs = [.write (encode (.poll 0#8 255))] ∧
    idleState.pollTimeout ≠ 0#24 := ⟨rfl, rfl, by decide⟩

theorem test_witness_SilentWindowIsTruncated :
    pollState.phase.receiving = true ∧ pollState.op = .poll ∧ pollState.need ≠ 0#7 ∧ pollState.chanRx = [] ∧
    0 < pollState.timer.toNat ∧ 1 = pollState.timer.toNat ∧
    (scheduled (tickEvents 1) pollState).inputs = tickEvents 1 ++ [] := by decide

/-- The last tick over two of three header bytes takes them (V-P11). -/
theorem test_last_tick_takes_the_bytes :
    (receiving [0xFA#8, 0xF5#8] pollState).chanRx.length < pollState.need.toNat ∧ pollState.timer = 1#24 ∧
    nextHas (step (scheduled [.tick] (receiving [0xFA#8, 0xF5#8] pollState)))
      (fun t => t.result.word == 0x04020005#32 && decide (t.chanRx = [])) = true := by decide

theorem test_witness_CopyTruncatesToMaxSize :
    idleState.phase = .idle ∧ 255 < 256 ∧ { idleState with dlLen := 64#7, respLen := 64#7 }.dlLen.toNat ≤ 64 ∧
    idleState.respLen.toNat ≤ 64 := by decide

theorem test_witness_WaitDlExhaustsItsBudget :
    ∃ s : State, s.phase = .idle ∧ s.chanRx = [] ∧
      s.inputs = .write (encode (.waitDl 0#8 255)) :: tickEvents (1000 * 255) ++ [] :=
  ⟨scheduled (.write (encode (.waitDl 0#8 255)) :: tickEvents (1000 * 255) ++ []) idleState, rfl, rfl, rfl⟩

/-- A zero budget, an empty channel, and a byte with a window and without one, at the budgets 1 and 255. -/
theorem test_witness_WaitDlBegins :
    idleState.phase = .idle ∧ idleState.chanRx = [] ∧ 255 < 256 ∧ 1 ≠ 0 ∧
    (receiving [0xFA#8] idleState).chanRx ≠ [] ∧ (receiving [0xFA#8] idleState).pollTimeout ≠ 0#24 ∧
    { receiving [0xFA#8] idleState with pollTimeout := 0#24 }.pollTimeout = 0#24 := by decide

/-- A downlink, and a response without and with a byte behind it, at the poll counts 253 and 255. -/
theorem test_witness_WaitDlFrameOutcome :
    (waitState [0xB1#8, 0xE2#8, 0xA9#8] []).phase = .rxHdr ∧ (waitState [0xB1#8, 0xE2#8, 0xA9#8] []).taken = 0#7 ∧
    (waitState [0xB1#8, 0xE2#8, 0xA9#8] []).need = 3#7 ∧ (waitState [0xB1#8, 0xE2#8, 0xA9#8] []).inputs = [] ∧
    (waitState [0xB1#8, 0xE2#8, 0xA9#8] []).pollTimeout ≠ 0#24 ∧
    (waitState [0xB2#8, 0xD2#8, 0xCA#8] [1#8]).chanRx =
      [0xFA#8, 0xF5#8, 0x03#8] ++ [0xB2#8, 0xD2#8, 0xCA#8] ++ [1#8] ∧
    { waitState [0xB2#8, 0xD2#8, 0xCA#8] [] with polls := 255#8 }.pollsAfter 2 = 255#8 ∧
    (waitState [0xB2#8, 0xD2#8, 0xCA#8] []).pollsAfter 2 = 255#8 := by decide

/-- A bad CRC, a bad length, a stage one byte short, and the ends of the last and of an earlier sleep. -/
theorem test_witness_WaitDlFailedPollSleeps :
    delimited [0xFA#8, 0xF5#8, 0x03#8] [0xB2#8, 0xD2#8, 0xCB#8] ∧
    parse [0xFA#8, 0xF5#8, 0x03#8] [0xB2#8, 0xD2#8, 0xCB#8] = none ∧
    (waitState [0xB2#8, 0xD2#8, 0xCB#8] [1#8]).chanRx = [0xFA#8, 0xF5#8, 0x03#8] ++ [0xB2#8, 0xD2#8, 0xCB#8] ++ [1#8] ∧
    { waitState [] [] with chanRx := [0xFA#8, 0xF5#8, 0x3E#8] ++ [1#8] }.inputs = [] ∧
    { scheduled [.tick] (waitState [] []) with chanRx := [0xFA#8, 0xF5#8] }.chanRx.length < (waitState [] []).need.toNat ∧
    (waitState [] []).timer = 1#24 ∧
    { scheduled [.tick] (waitState [] []) with phase := .pollSleep }.pollsLeft = 1#8 ∧
    { scheduled [.tick] (waitState [] []) with phase := .pollSleep, pollsLeft := 255#8 }.pollsLeft ≠ 1#8 := by
  refine ⟨⟨rfl, rfl, rfl⟩, ?_⟩
  decide

/-- A busy and an idle block. -/
theorem test_witness_BusyRefusesTheListedWrites :
    pollState.phase ≠ .idle ∧
    (scheduled [.write ⟨Reg.offset (.txbuf 63#6), 1#32⟩] pollState).inputs = .write ⟨Reg.offset (.txbuf 63#6), 1#32⟩ :: [] ∧
    (scheduled [.write ⟨0x004#10, 6#32⟩] pollState).inputs = .write ⟨0x004#10, 6#32⟩ :: [] ∧
    (scheduled [.write ⟨0x004#10, 2#32⟩] idleState).inputs = .write ⟨0x004#10, 2#32⟩ :: [] ∧
    (scheduled [.write ⟨0x00C#10, 1#32⟩] idleState).inputs = .write ⟨0x00C#10, 1#32⟩ :: [] := by
  decide

/-- W1C of DONE leaves ERR_BUSY, and W1C of ERR_BUSY leaves DONE. -/
theorem test_status_w1c :
    nextHas (step (scheduled [.write ⟨0x004#10, 2#32⟩] { idleState with done := true, errBusy := true }))
      (fun t => !t.done && t.errBusy) = true ∧
    nextHas (step (scheduled [.write ⟨0x004#10, 4#32⟩] { idleState with done := true, errBusy := true }))
      (fun t => t.done && !t.errBusy) = true := by decide

/-- Words with OP 0x00, OP 0x08 and RSV ≠ 0, when idle and when busy. -/
theorem test_witness_IllegalCommandCompletesAtOnce :
    (0x00000000#32).extractLsb' 0 8 = 0x00#8 ∧ 8 ≤ ((0x00000008#32).extractLsb' 0 8).toNat ∧
    (0x01000004#32).extractLsb' 24 8 ≠ 0#8 ∧
    (scheduled [.write ⟨0x000#10, 0x01000004#32⟩] idleState).phase = .idle ∧
    (scheduled [.write ⟨0x000#10, 0x01000004#32⟩] pollState).phase ≠ .idle := by decide

theorem test_witness_BusErrorsHaveNoEffect :
    (0x022#10).extractLsb' 0 2 ≠ 0#2 ∧ 0x03C ≤ (0x03C#10).toNat ∧ (0x0FC#10).toNat ≤ 0x0FC ∧
    (scheduled [.write ⟨0x022#10, 1#32⟩] idleState).inputs = .write ⟨0x022#10, 1#32⟩ :: [] ∧
    (scheduled [.read 0x03C#10] idleState).inputs = .read 0x03C#10 :: [] := by decide

/-- Reads of STATUS, RESULT, CONFIG, the registers and first and last buffer entries, while idle, busy and filling. -/
theorem test_witness_reads :
    (scheduled [.read 0x004#10] pollState).inputs = .read 0x004#10 :: [] ∧
    (scheduled [.read 0x008#10] pollState).inputs = .read 0x008#10 :: [] ∧
    (scheduled [.read 0x034#10] pollState).inputs = .read 0x034#10 :: [] ∧
    (scheduled [.read 0x200#10] sendState).inputs = .read 0x200#10 :: [] ∧
    (∀ r ∈ [Reg.cmd, .crcData, .ctrl, .ackTimeout, .retryDelay, .maxAttempts, .pollTimeout, .crcAcc, .dlLen, .respLen,
        .frameLen, .config2, .txbuf 63#6, .txframe 0#6, .rxwin 63#6],
      (scheduled [.read r.offset] pollState).inputs = .read r.offset :: []) ∧
    sendState.phase ≠ .idle ∧ sendState.op = .send ∧ pollState.op = .poll ∧
    { pollState with op := .copyDl }.phase ≠ .idle := by decide

/-- The lengths and the last entry of a buffer as the host reads them. -/
theorem test_read_of_a_received_frame :
    nextHas (step (scheduled [.read 0x028#10] { idleState with dlLen := 64#7 }))
      (fun t => decide (t.reply = some ⟨false, some 0x00000040#32⟩)) = true ∧
    nextHas (step (scheduled [.read 0x3FC#10] { idleState with rxwin := [(63, 0xA9#8)] }))
      (fun t => decide (t.reply = some ⟨false, some 0x000000A9#32⟩)) = true := by decide

/-- Read-only registers, each parameter register and the first and last TXBUF entries, and a write with its read behind
(V-E12, V-E11). -/
theorem test_witness_RegisterWritesChangeTheirFieldOnly :
    (scheduled [.write ⟨Reg.offset .result, 0xFFFFFFFF#32⟩] idleState).inputs = .write ⟨Reg.offset .result, 0xFFFFFFFF#32⟩ :: [] ∧
    (scheduled [.write ⟨Reg.offset (.rxwin 63#6), 1#32⟩] pollState).inputs = .write ⟨Reg.offset (.rxwin 63#6), 1#32⟩ :: [] ∧
    (∀ r ∈ [Reg.ackTimeout, .retryDelay, .maxAttempts, .pollTimeout, .ctrl, .crcAcc, .cmd, .crcData, .txbuf 0#6, .txbuf 63#6],
      (scheduled [.write ⟨r.offset, 0x12345678#32⟩, .read r.offset] idleState).inputs =
        .write ⟨r.offset, 0x12345678#32⟩ :: .read r.offset :: []) ∧
    idleState.phase = .idle := by decide

theorem test_witness_InterruptIsDoneAndEnabled :
    { idleState with irqEn := true }.irqEn = true ∧ (0x00000002#32).getLsbD 1 = true ∧
    (scheduled [.write ⟨0x004#10, 2#32⟩] { idleState with done := true, irqEn := true }).irq = true ∧
    (scheduled [.write ⟨0x00C#10, 0#32⟩] idleState).inputs = .write ⟨0x00C#10, 0#32⟩ :: [] ∧
    (scheduled [.reset] idleState).inputs = .reset :: [] := by decide

theorem test_witness_ErrBusyIsSticky :
    ∃ t, step (scheduled [.write ⟨0x004#10, 2#32⟩] { pollState with errBusy := true }) = .next t ∧
      { pollState with errBusy := true }.errBusy = true ∧ (2#32).getLsbD 2 = false := ⟨_, rfl, rfl, by decide⟩

/-- A step that changes RESULT, and one that ends an operation. -/
theorem test_witness_ResultChangesOnlyAtCompletion :
    nextHas (step (scheduled [.tick] pollState)) (fun t => decide (t.result ≠ pollState.result) && !t.busy) = true := by
  decide

/-- The running POLL, the running SEND and the body stage meet the invariant. -/
theorem test_witness_invariant : pollState.Inv ∧ sendState.Inv ∧ bodyState.Inv := by
  refine ⟨?_, ?_, ?_⟩ <;> constructor <;> decide

theorem test_witness_ResetRegisterValues :
    ∃ t, step (scheduled [.reset] sendState) = .next t ∧ (scheduled [.reset] sendState).inputs = .reset :: [] :=
  ⟨_, rfl, rfl⟩

/-- A BUILD of one loaded byte, a BUILD of none, a read of an unwritten entry, and a byte presented in TX_BYTES. -/
theorem test_witness_UnspecifiedBytesReachNoOperation :
    (scheduled [.write (encode (.build 0xA1#8 1))] { idleState with txbuf := [(0, 1#8)] }).Inv ∧
    (scheduled [.write (encode (.build 0xA1#8 1))] { idleState with txbuf := [(0, 1#8)] }).payloadLoaded ∧
    (scheduled [.read 0x100#10] idleState).Inv ∧ (scheduled [.read 0x100#10] idleState).payloadLoaded ∧
    (scheduled [.read 0x100#10] idleState).readsUnwritten ∧
    sendState.phase = .txBytes := by
  refine ⟨by constructor <;> decide, ?_, by constructor <;> decide +kernel, ?_, ?_, rfl⟩
  · intro b code n hb _ hd _
    obtain rfl : encode (.build 0xA1#8 1) = b := by simpa [scheduled] using hb
    have hw : decode (encode (.build 0xA1#8 1)) = .ok (.build 0xA1#8 1) := by rfl
    simp only [hw, Except.ok.injEq, Instr.build.injEq, reduceCtorEq, or_false] at hd
    obtain ⟨rfl, rfl⟩ := hd
    decide
  · intro b _ _ hb; simp [scheduled] at hb
  · exact ⟨0x100#10, 0#6, rfl, .inl (by decide)⟩

theorem test_witness_TicksCountInSixPhasesOnly :
    (scheduled [.tick] sendState).inputs = .tick :: [] ∧ sendState.phase ≠ .txSettle1 ∧ sendState.phase ≠ .txSettle2 ∧
    sendState.phase ≠ .retryWait ∧ sendState.phase ≠ .pollSleep ∧ sendState.phase ≠ .rxHdr ∧
    sendState.phase ≠ .rxBody := by decide

/-- A delay on its last tick and before it, and the states that its end leads on from. -/
theorem test_witness_delay_ticks :
    { scheduled [.tick] sendState with phase := .txSettle1, timer := 2#24 }.timer ≠ 1#24 ∧
    { scheduled [.tick] sendState with phase := .txSettle1, timer := 1#24 }.frameLen ≠ 0#7 ∧
    { scheduled [.tick] sendState with phase := .txSettle2, timer := 1#24 }.op = .send ∧
    { scheduled [.tick] (ackState 1#8 1#24 []) with phase := .txSettle2, timer := 1#24 }.ackTimeout ≠ 0#24 ∧
    { scheduled [.tick] (ackState 1#8 1#24 []) with phase := .retryWait, timer := 1#24 }.inputs = .tick :: [] := by
  decide

/-- A stage one byte short before its last tick, and one whose bytes are there on its last tick, with none and one behind. -/
theorem test_witness_stage_ticks :
    { scheduled [.tick] pollState with timer := 2#24, chanRx := [0xFA#8, 0xF5#8] }.chanRx.length < pollState.need.toNat ∧
    (2#24 : Ticks) ≠ 1#24 ∧ pollState.taken.toNat + 2 ≤ 64 ∧
    bodyState.phase = .rxBody ∧ bodyState.op = .poll ∧ bodyState.timer = 1#24 ∧ bodyState.need ≠ 0#7 ∧
    bodyState.need.toNat ≤ bodyState.chanRx.length ∧
    pollState.need.toNat ≤ (receiving [0xFA#8, 0xF5#8, 0x3D#8, 0xB1#8] pollState).chanRx.length := by decide

/-- R231 on the last tick of both windows: the stage completes and the tick is not counted. -/
theorem test_byte_beats_the_last_tick :
    nextHas (step (scheduled [.tick] (receiving [0xFA#8, 0xF5#8, 0x03#8] pollState)))
      (fun t => decide (t.phase = .rxBody) && t.timer == 3000#24 && t.need == 3#7) = true ∧
    nextHas (step (scheduled [.tick] bodyState)) (fun t => t.result.word == 0x0406B111#32) = true := by decide

/-- The shortest and the longest declared length, with one byte and with three bytes of the header to take. -/
theorem test_witness_body_stage_begins :
    pollState.taken.toNat + pollState.need.toNat = 3 ∧ pollState.pollTimeout ≠ 0#24 ∧
    [0xFA#8, 0xF5#8, 0x03#8].length = pollState.need.toNat ∧
    lengthLegal ([0xFA#8, 0xF5#8, 0x03#8].getLastD 0#8) = true ∧
    { pollState with op := .sendAck, taken := 2#7, need := 1#7 }.taken.toNat + 1 = 3 ∧
    lengthLegal ([0x3D#8].getLastD 0#8) = true ∧
    { pollState with op := .sendAck, chanRx := [0x3D#8, 0xB2#8] }.chanRx = [0x3D#8] ++ [0xB2#8] ∧
    { pollState with op := .sendAck }.ackTimeout ≠ 0#24 := by decide

/-- A flush over a channel that still holds a byte, a drained one, and a byte phase over a channel that accepts nothing. -/
theorem test_witness_flush :
    { scheduled [.core] sendState with phase := .txFlush, chanTx := [1#8] }.inputs = .core :: [] ∧
    { scheduled [.core] sendState with phase := .txFlush, chanTx := [1#8] }.chanTx ≠ [] ∧
    { scheduled [.core] sendState with phase := .txFlush }.chanTx = [] ∧
    (scheduled [.tick] sendState).phase = .txBytes ∧ (scheduled [.tick] sendState).nextEvent ≠ some .accept := by
  decide

/-- Steps that store a frame, copy the window, transmit a byte and take a byte. -/
theorem test_witness_steps_that_act :
    nextHas (step bodyState) (fun t => decide (t.dlslot ≠ bodyState.dlslot ∧ t.chanRx = bodyState.chanRx.drop 1)) = true ∧
    nextHas (step (scheduled [.write (encode (.copyDl 0#8 1))] { idleState with dlLen := 6#7, dlslot := [(0, 1#8)] }))
      (fun t => decide (t.rxwin ≠ idleState.rxwin)) = true ∧
    nextHas (step (scheduled [.accept] sendState)) (fun t => decide (t.chanTx = [0xFB#8] ∧ t.phase = .txFlush)) = true := by
  decide

theorem test_witness_buffersWf :
    bodyState.buffersWf = true ∧ Memory.wf [(1, 0#8), (1, 0#8)] = false ∧ Memory.wf [(64, 0#8)] = false := by
  decide

end Sys2Proof.Tests
end

section
/-! SUPPORT. The block's invariant is kept by every step. Between two waiting points the phase passes through values that
the invariant excludes, so the moves of the sequencer are stated from two weaker facts that do not speak of the phase:
`Stored` (the buffers and their lengths) and `Underway` (`Stored`, and what a running operation has). -/

namespace Sys2Proof.Machine

/-! ### Buffers filled from entry 0 -/

theorem Memory.filled_iff (m : Memory) (n : Nat) : m.filled n = true ↔ ∀ i < n, (m.read i).isSome = true := by
  simp [Memory.filled]

/-- Writing the next entry extends what has been written. -/
theorem Memory.filled_write (m : Memory) (n : Nat) (b : Byte) (fits : n < 64) (h : m.filled n = true) :
    (m.write n b).filled (n + 1) = true := by
  rw [Memory.filled_iff] at h ⊢
  intro i hi
  rw [Memory.read_write]
  by_cases last : i = n
  · simp [last, fits]
  · simpa [last] using h i (by omega)

/-- The entries below the length of a frame have been written once it is stored. -/
theorem Memory.filled_writeAll (m : Memory) (f : List Byte) (fits : f.length ≤ 64) :
    (m.writeAll 0 f).filled f.length = true := by
  rw [Memory.filled_iff]
  intro i hi
  rw [Memory.read_writeAll _ _ _ _ (by omega)]
  simp [hi]

/-- The length of a frame fits a length register. -/
theorem toNat_frameLength {n : Nat} (hi : n ≤ 64) : (BitVec.ofNat 7 n).toNat = n := by
  rw [BitVec.toNat_ofNat]; omega

theorem lengthMarker_ofNat {n : Nat} (lo : 6 ≤ n) (hi : n ≤ 64) : lengthMarker (BitVec.ofNat 7 n) = true := by
  simp only [lengthMarker, toNat_frameLength hi, decide_eq_true_eq]
  omega

/-! ### What holds in every phase -/

/-- The buffers are canonical, and the lengths are those of frames that have been written: the part of the invariant
that does not speak of the running operation. It is a conjunction over fields, so it carries over by definition to every
update of other fields. -/
def State.Stored (s : State) : Prop :=
  s.buffersWf = true ∧
  (lengthMarker s.dlLen = true ∧ lengthMarker s.respLen = true ∧ lengthMarker s.frameLen = true) ∧
  (s.dlslot.filled s.dlLen.toNat = true ∧ s.respslot.filled s.respLen.toNat = true ∧
    s.txframe.filled s.frameLen.toNat = true)

/-- What a running operation has in each of its phases, the internal ones included: a frame to send, an attempt within
the bound, budget left. -/
def State.Underway (s : State) : Prop :=
  s.Stored ∧
  (s.op = .send ∨ s.op = .sendAck → 6 ≤ s.frameLen.toNat) ∧
  (s.op = .sendAck → 1 ≤ s.attempt.toNat ∧ s.attempt.toNat ≤ s.maxAttempts.toNat) ∧
  (s.op = .waitDl → s.pollsLeft ≠ 0#8)

theorem State.Inv.stored {s : State} (h : s.Inv) : s.Stored := ⟨h.buffers, h.lengths, h.slots_written⟩

theorem State.Inv.underway {s : State} (h : s.Inv) (running : s.busy = true) : s.Underway :=
  ⟨h.stored, h.frame_ready running, h.attempt_bound running, h.budget running⟩

theorem State.buffersWf_iff (s : State) : s.buffersWf = true ↔
    s.txbuf.wf = true ∧ s.txframe.wf = true ∧ s.rxwin.wf = true ∧ s.dlslot.wf = true ∧ s.respslot.wf = true ∧
    s.stg.wf = true := by
  simp [State.buffersWf, and_assoc]

theorem State.Stored.putFrame {s : State} (h : s.Stored) {f : List Byte} (lo : 6 ≤ f.length) (hi : f.length ≤ 64) :
    (s.putFrame f).Stored ∧ (s.putFrame f).frameLen.toNat = f.length := by
  obtain ⟨canonical, ⟨dl, resp, -⟩, dlFilled, respFilled, -⟩ := h
  obtain ⟨txbuf, txframe, rest⟩ := s.buffersWf_iff.mp canonical
  have len := toNat_frameLength hi
  refine ⟨⟨?_, ⟨dl, resp, lengthMarker_ofNat lo hi⟩, dlFilled, respFilled, ?_⟩, len⟩
  · exact (State.buffersWf_iff _).mpr ⟨txbuf, Memory.wf_writeAll _ _ _ txframe, rest⟩
  · rw [State.putFrame_frameLen, len]; exact Memory.filled_writeAll _ f hi

theorem State.Stored.putDownlink {s : State} (h : s.Stored) {f : List Byte} (lo : 6 ≤ f.length) (hi : f.length ≤ 64) :
    (s.putDownlink f).Stored := by
  obtain ⟨canonical, ⟨-, resp, frame⟩, -, respFilled, frameFilled⟩ := h
  obtain ⟨txbuf, txframe, rxwin, dlslot, rest⟩ := s.buffersWf_iff.mp canonical
  have len := toNat_frameLength hi
  refine ⟨?_, ⟨lengthMarker_ofNat lo hi, resp, frame⟩, ?_, respFilled, frameFilled⟩
  · exact (State.buffersWf_iff _).mpr ⟨txbuf, txframe, rxwin, Memory.wf_writeAll _ _ _ dlslot, rest⟩
  · rw [State.putDownlink_dlLen, len]; exact Memory.filled_writeAll _ f hi

theorem State.Stored.putResponse {s : State} (h : s.Stored) {f : List Byte} (lo : 6 ≤ f.length) (hi : f.length ≤ 64) :
    (s.putResponse f).Stored := by
  obtain ⟨canonical, ⟨dl, -, frame⟩, dlFilled, -, frameFilled⟩ := h
  obtain ⟨txbuf, txframe, rxwin, dlslot, respslot, stg⟩ := s.buffersWf_iff.mp canonical
  have len := toNat_frameLength hi
  refine ⟨?_, ⟨dl, lengthMarker_ofNat lo hi, frame⟩, dlFilled, ?_, frameFilled⟩
  · exact (State.buffersWf_iff _).mpr ⟨txbuf, txframe, rxwin, dlslot, Memory.wf_writeAll _ _ _ respslot, stg⟩
  · rw [State.putResponse_respLen, len]; exact Memory.filled_writeAll _ f hi

theorem State.Stored.putWindow {s : State} (h : s.Stored) (f : List Byte) : (s.putWindow f).Stored := by
  obtain ⟨canonical, lengths, written⟩ := h
  obtain ⟨txbuf, txframe, rxwin, rest⟩ := s.buffersWf_iff.mp canonical
  exact ⟨(State.buffersWf_iff _).mpr ⟨txbuf, txframe, Memory.wf_writeAll _ _ _ rxwin, rest⟩, lengths, written⟩

theorem State.Stored.stageByte {s : State} (h : s.Stored) (b : Byte) (rest : List Byte) :
    (s.stageByte b rest).Stored := by
  obtain ⟨canonical, lengths, written⟩ := h
  obtain ⟨txbuf, txframe, rxwin, dlslot, respslot, stg⟩ := s.buffersWf_iff.mp canonical
  exact ⟨(State.buffersWf_iff _).mpr
    ⟨txbuf, txframe, rxwin, dlslot, respslot, Memory.wf_write _ _ _ stg⟩, lengths, written⟩

/-! ### Entering a waiting point

One lemma for each phase that a move can enter: which facts make the invariant hold there. -/

/-- At rest the invariant asks for the stored frames and the idle wake line only. -/
theorem State.Stored.inv_idle {s : State} (h : s.Stored) (idle : s.phase = .idle) (wake : s.wake = true) : s.Inv := by
  obtain ⟨buffers, lengths, written⟩ := h
  constructor <;> simp [idle, wake, buffers, lengths, written, State.busy, Phase.allows, Phase.transmitting,
    Phase.counting, Phase.receiving]

/-- Every completion outside the bracket leads to a state that meets the invariant. -/
theorem State.Stored.inv_finish {s : State} (h : s.Stored) (wake : s.wake = true) (opc : Byte) (res : Res)
    (rcode count : Byte) (cls : Bool) : (s.finish opc res rcode count cls).Inv :=
  State.Stored.inv_idle (s := s.finish opc res rcode count cls) h rfl wake

theorem State.Stored.inv_complete {s : State} (h : s.Stored) (wake : s.wake = true) (res : Res)
    (rcode count : Byte) (cls : Bool) : (s.complete res rcode count cls).Inv :=
  h.inv_finish wake _ res rcode count cls

/-- The phases of the bracket share their conditions. -/
theorem State.Underway.inv_transmitting {s : State} (h : s.Underway) (sends : s.op = .send ∨ s.op = .sendAck)
    (bracket : s.phase.transmitting = true) (wake : s.wake = false) (ticks : s.phase.counting = true → s.timer ≠ 0#24)
    (more : s.phase = .txBytes → s.idx < s.frameLen) : s.Inv := by
  obtain ⟨⟨buffers, lengths, written⟩, frame, attempt, budget⟩ := h
  cases phase : s.phase with
  | txSettle1 | txBytes | txFlush | txSettle2 =>
    constructor <;> simp_all [Phase.allows, Phase.transmitting, Phase.receiving]
  | _ => simp [phase, Phase.transmitting] at bracket

theorem State.Underway.inv_beginTransmit {s : State} (h : s.Underway) (sends : s.op = .send ∨ s.op = .sendAck) :
    s.beginTransmit.Inv :=
  State.Underway.inv_transmitting (s := s.beginTransmit) h sends rfl rfl (by simp [Config.settleTicks]) (by simp)

theorem State.Underway.inv_retryWait {s : State} (h : s.Underway) (op : s.op = .sendAck) (phase : s.phase = .retryWait)
    (wake : s.wake = true) (ticks : s.timer ≠ 0#24) (left : s.attempt.toNat < s.maxAttempts.toNat) : s.Inv := by
  obtain ⟨⟨buffers, lengths, written⟩, frame, attempt, budget⟩ := h
  constructor <;> simp_all [Phase.allows, Phase.transmitting, Phase.receiving]

theorem State.Underway.inv_pollSleep {s : State} (h : s.Underway) (op : s.op = .waitDl) (phase : s.phase = .pollSleep)
    (wake : s.wake = true) (ticks : s.timer ≠ 0#24) : s.Inv := by
  obtain ⟨⟨buffers, lengths, written⟩, frame, attempt, budget⟩ := h
  constructor <;> simp_all [Phase.allows, Phase.transmitting, Phase.receiving]

/-! ### Read stages -/

/-- The operations that receive (R262, R292). -/
def State.receives (s : State) : Prop := s.op = .sendAck ∨ s.op = .poll ∨ s.op = .waitDl

/-- A read stage, its last take included: the invariant of RX_HDR and RX_BODY without `need ≠ 0`. -/
structure State.Staging (s : State) : Prop where
  underway : s.Underway
  op : s.receives
  wake : s.wake = true
  ticks : s.timer ≠ 0#24
  staged : s.stg.filled s.taken.toNat = true
  stage : (s.phase = .rxHdr ∧ s.taken.toNat + s.need.toNat = 3) ∨
    (s.phase = .rxBody ∧ lengthLegal s.declared = true ∧ 3 ≤ s.taken.toNat ∧
      s.taken.toNat + s.need.toNat = 3 + s.declared.toNat)

theorem State.Inv.staging {s : State} (h : s.Inv) (phase : s.phase = .rxHdr ∨ s.phase = .rxBody) :
    s.Staging ∧ s.need ≠ 0#7 := by
  have op := h.phase_of_op
  have wake := h.wake_level
  have ticks := h.timer_runs
  have staged := h.staged_written
  rcases phase with header | body
  · obtain ⟨need, count⟩ := h.header_count header
    simp only [header, Phase.allows, Phase.transmitting, Phase.counting, Phase.receiving, decide_eq_true_eq,
      Bool.not_false, forall_const] at op wake ticks staged
    exact ⟨⟨h.underway (s.busy_iff.mpr (by simp [header])), op, wake, ticks, staged, .inl ⟨header, count⟩⟩, need⟩
  · obtain ⟨need, legal, past, count⟩ := h.body_count body
    simp only [body, Phase.allows, Phase.transmitting, Phase.counting, Phase.receiving, decide_eq_true_eq,
      Bool.not_false, forall_const] at op wake ticks staged
    exact ⟨⟨h.underway (s.busy_iff.mpr (by simp [body])), op, wake, ticks, staged, .inr ⟨body, legal, past, count⟩⟩,
      need⟩

/-- A read stage that still needs a byte is a waiting point. -/
theorem State.Staging.inv {s : State} (h : s.Staging) (need : s.need ≠ 0#7) : s.Inv := by
  obtain ⟨⟨⟨buffers, lengths, written⟩, frame, attempt, budget⟩, op, wake, ticks, staged, stage⟩ := h
  rcases stage with ⟨header, count⟩ | ⟨body, legal, past, count⟩
  · constructor <;> simp_all [Phase.allows, Phase.transmitting, State.receives]
  · constructor <;> simp_all [Phase.allows, Phase.transmitting, State.receives]

/-- There is room in the staging buffer for a byte that a stage needs. -/
theorem State.Staging.taken_lt {s : State} (h : s.Staging) (need : s.need ≠ 0#7) : s.taken.toNat < 64 := by
  have pos : s.need.toNat ≠ 0 := fun zero => need (BitVec.eq_of_toNat_eq zero)
  rcases h.stage with ⟨-, count⟩ | ⟨-, legal, -, count⟩
  · omega
  · have := (lengthLegal_iff _).mp legal; omega

/-- A byte staged behind the header leaves the declared length. -/
theorem State.declared_stageByte (s : State) (b : Byte) (rest : List Byte) (past : 3 ≤ s.taken.toNat) :
    (s.stageByte b rest).declared = s.declared := by
  have other : ¬ (2 = s.taken.toNat) := by omega
  simp [State.declared, State.byteAt, State.buffer, Memory.read_write, other]

theorem State.toNat_stageByte_taken (s : State) (b : Byte) (rest : List Byte) (room : s.taken.toNat < 64) :
    (s.stageByte b rest).taken.toNat = s.taken.toNat + 1 := by
  simp only [State.stageByte_taken]; bv_omega

theorem State.toNat_stageByte_need (s : State) (b : Byte) (rest : List Byte) (need : s.need ≠ 0#7) :
    (s.stageByte b rest).need.toNat = s.need.toNat - 1 := by
  simp only [State.stageByte_need]; bv_omega

theorem State.Staging.stageByte {s : State} (h : s.Staging) (need : s.need ≠ 0#7) (b : Byte) (rest : List Byte) :
    (s.stageByte b rest).Staging := by
  have room := h.taken_lt need
  have taken := s.toNat_stageByte_taken b rest room
  have left := s.toNat_stageByte_need b rest need
  have pos : s.need.toNat ≠ 0 := fun zero => need (BitVec.eq_of_toNat_eq zero)
  obtain ⟨stored, running⟩ := h.underway
  refine ⟨⟨stored.stageByte b rest, running⟩, h.op, h.wake, h.ticks, ?_, ?_⟩
  · rw [taken]; exact Memory.filled_write _ _ _ room h.staged
  · rw [taken, left]
    rcases h.stage with ⟨header, count⟩ | ⟨body, legal, past, count⟩
    · exact .inl ⟨header, by omega⟩
    · rw [s.declared_stageByte b rest past]
      exact .inr ⟨body, legal, by omega, by omega⟩

theorem State.Staging.takeByte {s : State} (h : s.Staging) (need : s.need ≠ 0#7) :
    s.takeByte.Staging ∧ s.need.toNat - 1 ≤ s.takeByte.need.toNat := by
  rcases s.takeByte_cases with ⟨-, took⟩ | ⟨b, rest, -, took⟩
  · rw [took]; exact ⟨h, by omega⟩
  · rw [took, s.toNat_stageByte_need b rest need]; exact ⟨h.stageByte need b rest, le_rfl⟩

/-- As many takes as the stage needs keep it a read stage. -/
theorem State.Staging.takeBytes {s : State} (h : s.Staging) (n : Nat) (enough : n ≤ s.need.toNat) :
    (s.takeBytes n).Staging := by
  induction n generalizing s with
  | zero => exact h
  | succ n ih =>
    obtain ⟨next, left⟩ := h.takeByte (fun zero => by simp [zero] at enough)
    exact ih next (by omega)

/-! ### How an attempt, a poll or a receive goes on -/

theorem State.Underway.inv_retry {s : State} (h : s.Underway) (op : s.op = .sendAck)
    (left : s.attempt.toNat < s.maxAttempts.toNat) : s.retry.Inv := by
  obtain ⟨stored, frame, -, budget⟩ := h
  have next : (s.attempt + 1#8).toNat = s.attempt.toNat + 1 := by bv_omega
  have underway : s.nextAttempt.Underway := ⟨stored, frame, fun _ => by
    change 1 ≤ (s.attempt + 1#8).toNat ∧ (s.attempt + 1#8).toNat ≤ s.maxAttempts.toNat
    omega, budget⟩
  exact underway.inv_beginTransmit (.inr op)

theorem State.Underway.inv_attemptFailed {s : State} (h : s.Underway) (op : s.op = .sendAck) (wake : s.wake = true) :
    s.attemptFailed.Inv := by
  rcases s.attemptFailed_cases with ⟨left, -, failed⟩ | ⟨left, delay, failed⟩ | ⟨-, failed⟩
  · rw [failed]; exact State.Underway.inv_retry (s := s.enter .retryWait) h op left
  · rw [failed]; exact State.Underway.inv_retryWait (s := s.wait .retryWait s.retryDelay) h op rfl wake delay left
  · rw [failed]; exact State.Stored.inv_complete (s := s.nextAttempt) h.1 wake ..

theorem State.Underway.inv_testAck {s : State} (h : s.Underway) (op : s.op = .sendAck) (wake : s.wake = true) :
    s.testAck.Inv := by
  rcases s.testAck_cases with ⟨-, tested⟩ | ⟨-, tested⟩
  · rw [tested]; exact h.1.inv_complete wake ..
  · rw [tested]; exact h.inv_attemptFailed op wake

theorem State.Underway.inv_pollAgainLater {s : State} (h : s.Underway) (op : s.op = .waitDl) (wake : s.wake = true) :
    s.pollAgainLater.Inv :=
  State.Underway.inv_pollSleep (s := s.pollAgainLater) h op rfl wake (by simp [State.pollAgainLater, Config.pollSleepTicks])

theorem State.Underway.inv_receiveFailed {s : State} (h : s.Underway) (op : s.receives) (wake : s.wake = true)
    (o : RxOutcome) : (s.receiveFailed o).Inv := by
  rcases s.receiveFailed_cases o with ⟨ack, failed⟩ | ⟨-, failed⟩ | ⟨wait, failed⟩ | ⟨other, -⟩
  · rw [failed]; exact State.Underway.inv_attemptFailed (s := s.setRx o) h ack wake
  · rw [failed]; exact State.Stored.inv_complete (s := s.setRx o) h.1 wake ..
  · rw [failed]; exact State.Underway.inv_pollAgainLater (s := s.setRx o) h wait wake
  · rcases op with op | op | op <;> simp [op] at other

theorem State.Underway.inv_beginReceive {s : State} (h : s.Underway) (op : s.receives) (wake : s.wake = true)
    (t : Ticks) : (s.beginReceive t).Inv := by
  rcases s.beginReceive_cases t with ⟨-, began⟩ | ⟨window, began⟩
  · rw [began]; exact State.Underway.inv_receiveFailed (s := s.clearStage) h op wake _
  · rw [began]
    have staging : (s.clearStage.startStage .rxHdr 3#7 t).Staging :=
      ⟨h, op, wake, window, rfl, .inl ⟨rfl, rfl⟩⟩
    exact staging.inv (by simp)

/-- The poll procedure begins (R290, R291): the operations that poll are POLL and WAIT_DL. -/
theorem State.Underway.inv_beginPoll {s : State} (h : s.Underway) (op : s.op = .poll ∨ s.op = .waitDl)
    (wake : s.wake = true) : s.beginPoll.Inv := by
  rcases s.beginPoll_cases with ⟨-, began⟩ | ⟨-, began⟩
  · rw [began]
    rcases s.pollEmpty_cases with ⟨-, empty⟩ | ⟨wait, empty⟩ | ⟨other, -⟩
    · rw [empty]; exact h.1.inv_complete wake ..
    · rw [empty]; exact h.inv_pollAgainLater wait wake
    · rcases op with op | op <;> simp [op] at other
  · rw [began]; exact h.inv_beginReceive (.inr op) wake _

theorem State.Stored.storeFrame {s : State} (h : s.Stored) (lo : 6 ≤ s.taken.toNat) (hi : s.taken.toNat ≤ 64) :
    s.storeFrame.Stored := by
  have entered : (s.enter .store).Stored := h
  rcases s.storeFrame_cases with ⟨-, stored⟩ | ⟨-, stored⟩
  · rw [stored]; exact entered.putDownlink (by simpa using lo) (by simpa using hi)
  · rw [stored]; exact entered.putResponse (by simpa using lo) (by simpa using hi)

theorem State.storeFrame_wake (s : State) : s.storeFrame.wake = s.wake := by
  rcases s.storeFrame_cases with ⟨-, stored⟩ | ⟨-, stored⟩ <;> simp [stored]

theorem State.storeFrame_pollsLeft (s : State) : s.storeFrame.pollsLeft = s.pollsLeft := by
  rcases s.storeFrame_cases with ⟨-, stored⟩ | ⟨-, stored⟩ <;> simp [stored]

theorem State.storeFrame_op (s : State) : s.storeFrame.op = s.op := congrArg OpSide.op s.storeFrame_opSide

theorem State.Underway.inv_receiveFrame {s : State} (h : s.Underway) (op : s.receives) (wake : s.wake = true)
    (lo : 6 ≤ s.taken.toNat) (hi : s.taken.toNat ≤ 64) : s.receiveFrame.Inv := by
  have stored : (s.setRx .frame).storeFrame.Stored := State.Stored.storeFrame (s := s.setRx .frame) h.1 lo hi
  have high : (s.setRx .frame).storeFrame.wake = true := (State.storeFrame_wake _).trans wake
  rcases s.receiveFrame_cases with ⟨ack, next⟩ | ⟨-, next⟩ | ⟨-, -, next⟩ | ⟨wait, -, next⟩ | ⟨other, -⟩
  · rw [next]; exact State.Underway.inv_testAck (s := s.setRx .frame) h ack wake
  · rw [next]; exact stored.inv_complete high ..
  · rw [next]; exact State.Stored.inv_complete (s := (s.setRx .frame).storeFrame.countPoll) stored high ..
  · rw [next]
    obtain ⟨-, -, -, budget⟩ := h
    have waits : (s.setRx .frame).storeFrame.op = .waitDl := (State.storeFrame_op _).trans wait
    have underway : (s.setRx .frame).storeFrame.Underway :=
      ⟨stored, by simp [waits], by simp [waits], fun _ => by
        rw [State.storeFrame_pollsLeft]; exact budget wait⟩
    exact State.Underway.inv_beginPoll (s := (s.setRx .frame).storeFrame.countPoll) underway (.inr waits) high
  · rcases op with op | op | op <;> simp [op] at other

/-! ### The end of a read stage -/

theorem State.Staging.inv_beginBody {s : State} (h : s.Staging) (taken : s.taken.toNat = 3)
    (legal : lengthLegal s.declared = true) : s.beginBody.Inv := by
  obtain ⟨lo, hi⟩ := (lengthLegal_iff _).mp legal
  have count : (s.declared.setWidth 7).toNat = s.declared.toNat := by simp only [BitVec.toNat_setWidth]; omega
  rcases s.beginBody_cases with ⟨-, began⟩ | ⟨window, began⟩
  · rw [began]; exact State.Underway.inv_receiveFailed (s := s.enter .rxBody) h.underway h.op h.wake _
  · rw [began]
    have staging : ((s.enter .rxBody).startStage .rxBody (s.declared.setWidth 7) s.window).Staging :=
      ⟨h.underway, h.op, h.wake, window, h.staged, .inr ⟨rfl, legal, taken.ge, congrArg₂ (· + ·) taken count⟩⟩
    refine staging.inv fun zero => ?_
    rw [State.startStage_need] at zero
    simp [zero] at count
    omega

theorem State.Staging.inv_checkFrame {s : State} (h : s.Staging) (lo : 6 ≤ s.taken.toNat) (hi : s.taken.toNat ≤ 64) :
    s.checkFrame.Inv := by
  rcases s.checkFrame_cases with ⟨-, checked⟩ | ⟨f, -, checked⟩
  · rw [checked]; exact State.Underway.inv_receiveFailed (s := s.enter .rxCheck) h.underway h.op h.wake _
  · rw [checked]; exact State.Underway.inv_receiveFrame (s := s.enter .rxCheck) h.underway h.op h.wake lo hi

theorem State.Staging.inv_stageComplete {s : State} (h : s.Staging) (full : s.need = 0#7) : s.stageComplete.Inv := by
  have stage := h.stage
  simp only [full, BitVec.toNat_ofNat, Nat.zero_mod, Nat.add_zero] at stage
  rcases s.stageComplete_cases with ⟨header, legal, done⟩ | ⟨-, -, done⟩ | ⟨body, done⟩ | ⟨notHdr, notBody, -⟩
  · rw [done]
    rcases stage with ⟨-, count⟩ | ⟨body, -⟩
    · exact h.inv_beginBody count legal
    · simp [header] at body
  · rw [done]; exact h.underway.inv_receiveFailed h.op h.wake _
  · rw [done]
    rcases stage with ⟨header, -⟩ | ⟨-, legal, -, count⟩
    · simp [body] at header
    · have := (lengthLegal_iff _).mp legal
      exact h.inv_checkFrame (by omega) (by omega)
  · rcases stage with ⟨header, -⟩ | ⟨body, -⟩
    · exact absurd header notHdr
    · exact absurd body notBody

/-- A read stage ends or waits: both keep the invariant when the waiting does. -/
theorem State.Staging.inv_stageTest {s : State} (h : s.Staging) (waiting : State → State)
    (waits : s.need ≠ 0#7 → (waiting s).Inv) : (s.stageTest waiting).Inv := by
  rcases s.stageTest_cases waiting with ⟨full, tested⟩ | ⟨short, tested⟩
  · rw [tested]; exact h.inv_stageComplete full
  · rw [tested]; exact waits short

/-! ### Moves at a waiting point -/

/-- The bracket's own facts at a waiting point inside it. -/
theorem State.Inv.bracket {s : State} (h : s.Inv) (phase : s.phase.transmitting = true) :
    s.Underway ∧ (s.op = .send ∨ s.op = .sendAck) ∧ s.wake = false := by
  have busy : s.busy = true := s.busy_iff.mpr fun idle => by simp [idle, Phase.transmitting] at phase
  have wake := h.wake_level
  have op := h.phase_of_op
  refine ⟨h.underway busy, ?_, by simpa [phase] using wake⟩
  cases which : s.phase with
  | txSettle1 | txBytes | txFlush | txSettle2 => simpa [which, Phase.allows] using op
  | _ => simp [which, Phase.transmitting] at phase

theorem State.Inv.coreStep {s : State} (h : s.Inv) : s.coreStep.Inv := by
  rcases s.coreStep_cases with ⟨phase, stepped⟩ | ⟨flush, stepped⟩ | ⟨-, -, -, stepped⟩
  · obtain ⟨staging, need⟩ := h.staging phase
    rw [stepped]
    exact staging.inv_stageTest _ fun _ => (staging.takeByte need).1.inv_stageTest _ (staging.takeByte need).1.inv
  · rw [stepped, State.drained]
    split
    · obtain ⟨underway, sends, wake⟩ := h.bracket (by rw [flush]; rfl)
      exact State.Underway.inv_transmitting (s := s.wait .txSettle2 Config.settleTicks) underway sends rfl wake
        (by simp [Config.settleTicks]) (by simp)
    · exact h
  · rw [stepped]; exact h

theorem State.Inv.acceptByte {s : State} (h : s.Inv) : s.acceptByte.Inv := by
  rw [State.acceptByte]
  split
  · rename_i ready
    have bytes : s.phase = .txBytes := by simp [State.txValid] at ready; exact ready.1
    obtain ⟨underway, sends, wake⟩ := h.bracket (by rw [bytes]; rfl)
    split
    · rename_i more
      exact State.Underway.inv_transmitting (s := s.putByte s.txData) underway sends
        (by rw [State.putByte_phase, bytes]; rfl) wake (by simp [bytes, Phase.counting]) fun _ => more
    · exact State.Underway.inv_transmitting (s := (s.putByte s.txData).enter .txFlush) underway sends rfl wake
        (by simp [Phase.counting]) (by simp)
  · exact h

/-- One counted tick keeps the invariant when the end of the delay does. -/
theorem State.Inv.countDown {s : State} (h : s.Inv) (done : State → State) (ends : (done s.tickDown).Inv) :
    (s.countDown done).Inv := by
  rcases s.countDown_cases done with ⟨-, counted⟩ | ⟨left, counted⟩
  · rw [counted]; exact ends
  · rw [counted]
    exact ⟨h.buffers, h.phase_of_op, h.wake_level, fun _ => left, h.lengths, h.slots_written, h.frame_ready, h.byte_ready,
      h.header_count, h.body_count, h.staged_written, h.attempt_bound, h.retry_bound, h.budget⟩

theorem State.Underway.inv_beginBytes {s : State} (h : s.Underway) (sends : s.op = .send ∨ s.op = .sendAck)
    (wake : s.wake = false) : s.beginBytes.Inv := by
  rw [State.beginBytes]
  split
  · exact State.Underway.inv_transmitting (s := s.startBytes .txFlush) h sends rfl wake
      (by simp [Phase.counting]) (by simp)
  · rename_i frame
    exact State.Underway.inv_transmitting (s := s.startBytes .txBytes) h sends rfl wake
      (by simp [Phase.counting]) fun _ => by simp only [State.startBytes_idx, State.startBytes_frameLen]; bv_omega

theorem State.Underway.inv_endTransmit {s : State} (h : s.Underway) (sends : s.op = .send ∨ s.op = .sendAck) :
    s.endTransmit.Inv := by
  rcases sends with op | op
  · simp only [State.endTransmit, op]
    exact State.Stored.inv_complete (s := s.setWake true) h.1 rfl ..
  · simp only [State.endTransmit, op]
    exact State.Underway.inv_beginReceive (s := s.setWake true) h (.inl op) rfl _

theorem State.Stored.inv_endSleep {s : State} (h : s.Stored) (op : s.op = .waitDl) (wake : s.wake = true) :
    s.endSleep.Inv := by
  rw [State.endSleep]
  split
  · exact State.Stored.inv_complete (s := s.spendBudget) h wake ..
  · rename_i budget
    have underway : s.spendBudget.Underway := ⟨h, by simp [op], by simp [op], fun _ => budget⟩
    exact underway.inv_beginPoll (.inr op) wake

theorem State.Inv.onTick {s : State} (h : s.Inv) : s.onTick.Inv := by
  have op := h.phase_of_op
  have wake := h.wake_level
  rcases s.onTick_cases with ⟨phase, ticked⟩ | ⟨phase, ticked⟩ | ⟨phase, ticked⟩ | ⟨phase, ticked⟩ | ⟨phase, ticked⟩ |
    ⟨-, ticked⟩
  · obtain ⟨underway, sends, low⟩ := h.bracket (by rw [phase]; rfl)
    rw [ticked]; exact h.countDown _ (State.Underway.inv_beginBytes (s := s.tickDown) underway sends low)
  · obtain ⟨underway, sends, -⟩ := h.bracket (by rw [phase]; rfl)
    rw [ticked]; exact h.countDown _ (State.Underway.inv_endTransmit (s := s.tickDown) underway sends)
  · have ack : s.op = .sendAck := by simpa [phase, Phase.allows] using op
    have underway := h.underway (s.busy_iff.mpr (by simp [phase]))
    rw [ticked]; exact h.countDown _ (State.Underway.inv_retry (s := s.tickDown) underway ack (h.retry_bound phase))
  · have waits : s.op = .waitDl := by simpa [phase, Phase.allows] using op
    have high : s.wake = true := by simpa [phase, Phase.transmitting] using wake
    rw [ticked]; exact h.countDown _ (State.Stored.inv_endSleep (s := s.tickDown) h.stored waits high)
  · have staging := (h.staging phase).1.takeBytes s.need.toNat le_rfl
    rw [ticked]
    exact staging.inv_stageTest _ fun need => (staging.inv need).countDown _
      (State.Underway.inv_receiveFailed (s := (s.takeBytes s.need.toNat).tickDown) staging.underway staging.op
        staging.wake _)
  · rw [ticked]; exact h

/-! ### Operations -/

theorem State.Inv.wake_of_idle {s : State} (h : s.Inv) (idle : s.busy = false) : s.wake = true := by
  have phase : s.phase = .idle := by simpa [State.busy] using idle
  simpa [phase, Phase.transmitting] using h.wake_level

/-- The state with the fields that the invariant does not speak of at fixed values. -/
def State.bare (s : State) : State :=
  { s with
    done := false, errBusy := false, result := ⟨.none, false, 0#8, 0#8, 0#8⟩, irqEn := false
    ackTimeout := 0#24, retryDelay := 0#24, pollTimeout := 0#24, crcAcc := 0#16
    code := 0#8, len := 0#8, polls := 0#8, rx := .frame, reply := none
    chanRx := [], chanTx := [], wire := [], inputs := [], draws := 0 }

theorem State.bare_inv_iff (s : State) : s.bare.Inv ↔ s.Inv := by
  constructor <;> intro h <;>
    exact ⟨h.buffers, h.phase_of_op, h.wake_level, h.timer_runs, h.lengths, h.slots_written, h.frame_ready,
      h.byte_ready, h.header_count, h.body_count, h.staged_written, h.attempt_bound, h.retry_bound, h.budget⟩

/-- An update of fields that the invariant does not speak of keeps it. -/
theorem State.Inv.of_bare {s t : State} (h : s.Inv) (same : t.bare = s.bare) : t.Inv :=
  (State.bare_inv_iff t).mp (same ▸ (State.bare_inv_iff s).mpr h)

/-- A command write keeps the invariant when the accepted operation, up to its first waiting point, does. -/
theorem State.Inv.issue {s : State} (h : s.Inv) (op : Op) (code : Byte) (len : Nat) (run : State → State)
    (runs : (s.accept op code len).Stored → (s.accept op code len).wake = true →
      (run (s.accept op code len)).Inv) : (s.issue op code len run).Inv := by
  rcases s.issue_cases op code len run with ⟨-, issued⟩ | ⟨idle, issued⟩
  · rw [issued]; exact h.of_bare rfl
  · rw [issued]; exact runs h.stored (h.wake_of_idle idle)

/-- The BUILD step keeps the invariant when what follows a built frame does. -/
theorem State.Stored.inv_buildThen {s : State} (h : s.Stored) (wake : s.wake = true) (next : State → State)
    (nexts : ∀ t : State, t.Stored → t.wake = true → t.op = s.op → 6 ≤ t.frameLen.toNat → (next t).Inv) :
    (s.buildThen next).Inv := by
  rcases s.buildThen_cases next with ⟨legal, built⟩ | ⟨-, built⟩
  · have fits : s.len.toNat ≤ 58 := payloadLegal_le legal
    obtain ⟨stored, frame⟩ := State.Stored.putFrame (s := s.enter .build) (f := s.builtFrame) h
      (by rw [State.builtFrame_length]; omega) (by rw [State.builtFrame_length]; omega)
    rw [built]
    exact nexts _ stored wake rfl (by rw [frame, State.builtFrame_length]; omega)
  · rw [built]; exact h.inv_complete wake ..

theorem State.Stored.inv_firstAttempt {s : State} (h : s.Stored) (wake : s.wake = true) (op : s.op = .sendAck)
    (frame : 6 ≤ s.frameLen.toNat) : s.firstAttempt.Inv := by
  rcases s.firstAttempt_cases with ⟨-, first⟩ | ⟨bound, first⟩
  · rw [first]; exact State.Stored.inv_complete (s := s.setAttempt 1#8) h wake ..
  · have underway : (s.setAttempt 1#8).Underway :=
      ⟨h, fun _ => frame, fun _ => ⟨le_rfl, by
        change 1 ≤ s.maxAttempts.toNat
        bv_omega⟩, by simp [op]⟩
    rw [first]; exact underway.inv_beginTransmit (.inr op)

theorem State.Stored.inv_firstPoll {s : State} (h : s.Stored) (wake : s.wake = true) (op : s.op = .waitDl) :
    s.firstPoll.Inv := by
  rcases s.firstPoll_cases with ⟨-, first⟩ | ⟨budget, first⟩
  · rw [first]; exact State.Stored.inv_complete (s := s.setBudget s.len) h wake ..
  · have underway : (s.setBudget s.len).Underway := ⟨h, by simp [op], by simp [op], fun _ => budget⟩
    rw [first]; exact underway.inv_beginPoll (.inr op) wake

theorem State.Stored.inv_copyOut {s : State} (h : s.Stored) (wake : s.wake = true) (b : Buffer) (n : Len) :
    (s.copyOut b n).Inv :=
  have entered : (s.enter .copy).Stored := h
  (entered.putWindow _).inv_complete wake ..

/-- An idle block runs the operation to a waiting point of its own, and a busy one refuses it. -/
theorem State.Inv.exec {s t : State} (h : s.Inv) (i : Instr) (ran : exec i s = .next t) : t.Inv := by
  cases i with
  | build code len =>
    obtain rfl : s.issue .build code len _ = t := Host.Outcome.next.inj ran
    exact h.issue _ _ _ _ fun stored wake => stored.inv_buildThen wake _ fun _ built high _ _ =>
      built.inv_complete high ..
  | send code len =>
    obtain rfl : s.issue .send code len _ = t := Host.Outcome.next.inj ran
    refine h.issue _ _ _ _ fun stored wake => stored.inv_buildThen wake _ fun u built _ op frame => ?_
    have send : u.op = .send := op
    have underway : u.Underway := ⟨built, fun _ => frame, by simp [send], by simp [send]⟩
    exact underway.inv_beginTransmit (.inl send)
  | sendAck code len =>
    obtain rfl : s.issue .sendAck code len _ = t := Host.Outcome.next.inj ran
    exact h.issue _ _ _ _ fun stored wake => stored.inv_buildThen wake _ fun _ built high op frame =>
      built.inv_firstAttempt high op frame
  | poll code len =>
    obtain rfl : s.issue .poll code len _ = t := Host.Outcome.next.inj ran
    refine h.issue _ _ _ _ fun stored wake => ?_
    have underway : (s.accept .poll code len).Underway := ⟨stored, by simp, by simp, by simp⟩
    exact underway.inv_beginPoll (.inl rfl) wake
  | copyDl code maxSize =>
    obtain rfl : s.issue .copyDl code maxSize _ = t := Host.Outcome.next.inj ran
    exact h.issue _ _ _ _ fun stored wake => stored.inv_copyOut wake _ _
  | copyResp code maxSize =>
    obtain rfl : s.issue .copyResp code maxSize _ = t := Host.Outcome.next.inj ran
    exact h.issue _ _ _ _ fun stored wake => stored.inv_copyOut wake _ _
  | waitDl code maxPollAttempts =>
    obtain rfl : s.issue .waitDl code maxPollAttempts _ = t := Host.Outcome.next.inj ran
    exact h.issue _ _ _ _ fun stored wake => stored.inv_firstPoll wake rfl
  | crcSeed data =>
    obtain rfl : s.setCrc _ = t := Host.Outcome.next.inj ran
    exact h.of_bare rfl
  | crcByte data =>
    obtain rfl : s.setCrc _ = t := Host.Outcome.next.inj ran
    exact h.of_bare rfl

/-! ### Other events -/

/-- A write that needs an idle block keeps the invariant when its effect on an idle block does. -/
theorem State.Inv.guarded {s : State} (h : s.Inv) (write : State → State) (writes : s.phase = .idle → (write s).Inv) :
    (s.guarded write).Inv := by
  rcases s.guarded_cases write with ⟨-, guard⟩ | ⟨idle, guard⟩
  · rw [guard]; exact h.of_bare rfl
  · rw [guard]; exact writes (by simpa [State.busy] using idle)

theorem State.Stored.putTxbuf {s : State} (h : s.Stored) (i : Nat) (b : Byte) : (s.putTxbuf i b).Stored := by
  obtain ⟨canonical, lengths, written⟩ := h
  obtain ⟨txbuf, rest⟩ := s.buffersWf_iff.mp canonical
  exact ⟨(State.buffersWf_iff _).mpr ⟨Memory.wf_write _ _ _ txbuf, rest⟩, lengths, written⟩

/-- Register writes: MAX_ATTEMPTS bounds a running operation, and TXBUF is a buffer, but neither is written while
one runs (R88). -/
theorem State.Inv.writeReg {s : State} (h : s.Inv) (r : Reg) (w : Word) : (s.writeReg r w).Inv := by
  have high (idle : s.phase = .idle) : s.wake = true := h.wake_of_idle (by simp [State.busy, idle])
  cases r with
  | maxAttempts =>
    rw [State.writeReg]
    exact h.guarded _ fun idle => State.Stored.inv_idle (s := { s with maxAttempts := _ }) h.stored idle (high idle)
  | txbuf i =>
    rw [State.writeReg]
    exact h.guarded _ fun idle => (h.stored.putTxbuf i.toNat _).inv_idle idle (high idle)
  | ackTimeout | retryDelay | pollTimeout =>
    rw [State.writeReg]
    exact h.guarded _ fun _ => h.of_bare rfl
  | _ => exact h.of_bare rfl

theorem State.Inv.illegal {s : State} (h : s.Inv) (opc : Byte) : (s.illegal opc).Inv := by
  rcases s.illegal_cases opc with ⟨-, done⟩ | ⟨idle, done⟩
  · rw [done]; exact h.of_bare rfl
  · rw [done]; exact h.stored.inv_finish (h.wake_of_idle idle) ..

theorem State.Inv.answer {s : State} (h : s.Inv) (r : BusReply) : (s.answer r).Inv := h.of_bare rfl

theorem State.Inv.writeOther {s : State} (h : s.Inv) (b : BusWrite) (e : DecodeError) : (s.writeOther b e).Inv := by
  cases e with
  | misaligned | unmapped => exact h.answer _
  | reservedBits | illegalOp => exact (h.illegal _).answer _
  | registerWrite r => exact (h.writeReg r _).answer _

theorem State.readReg_bare (s : State) (r : Reg) : (s.readReg r).bare = s.bare := by
  rw [State.readReg]; split <;> rfl

theorem State.busRead_bare (s : State) (a : Offset) : (s.busRead a).bare = s.bare := by
  rw [State.busRead]
  split
  · split
    · rfl
    · exact s.readReg_bare _
  · rfl

theorem State.sendOldest_bare (s : State) : s.sendOldest.bare = s.bare := by
  rw [State.sendOldest]; split <;> rfl

theorem State.inv_resetBlock (s : State) : s.resetBlock.Inv :=
  State.Stored.inv_idle (s := s.resetBlock) ⟨rfl, ⟨rfl, rfl, rfl⟩, rfl, rfl, rfl⟩ rfl rfl

theorem State.Inv.perform {s : State} (h : s.Inv) (e : Event) : (s.perform e).Inv := by
  cases e with
  | write b =>
    simp only [State.perform]
    split
    · exact h.answer _
    · exact h.writeOther b _
  | read a => exact h.of_bare (s.busRead_bare a)
  | arrive b => exact h.of_bare rfl
  | accept => exact h.acceptByte
  | sent => exact h.of_bare s.sendOldest_bare
  | tick => exact h.onTick
  | core => exact h.coreStep
  | reset => exact s.inv_resetBlock

/-- Settles O60: the three kinds of step keep the invariant. -/
theorem stepKeepsTheInvariant : Obligations.StepKeepsTheInvariant := by
  intro s t h stepped
  rcases step_cases s with ⟨-, core⟩ | ⟨b, rest, i, -, -, run⟩ | ⟨e, rest, -, -, event⟩
  · obtain rfl := Host.Outcome.next.inj (core.symm.trans stepped)
    exact h.coreStep
  · have taken : (s.taking rest).written.Inv := h.of_bare rfl
    exact taken.exec i (run.symm.trans stepped)
  · obtain rfl := Host.Outcome.next.inj (event.symm.trans stepped)
    have taken : (s.taking rest).Inv := h.of_bare rfl
    exact taken.perform e

end Sys2Proof.Machine
end

section
/-! SUPPORT. The dispatch of the step, the classes of command bytes, and what a step leaves unchanged: the operands of a
running operation, and the receive window. -/

namespace Sys2Proof.Machine

/-! ### Dispatch and command classes -/

/-- Settles O16: the decoded write is the operation of its event. -/
theorem stepRunsTheDecodedInstruction : Obligations.StepRunsTheDecodedInstruction := by
  intro s b rest i scheduled decoded
  have operation : (Event.write b).operation = some i := by simp [Event.operation, decoded]
  simp only [step, scheduled, operation]
  rfl

/-- Settles O5: the tests of `classify` are decided by the distinctness of the seven bytes. -/
theorem commandClassesAreDisjoint : Obligations.CommandClassesAreDisjoint := by
  intro c wf
  have distinct : c.outbound.Pairwise (· ≠ ·) := by
    simp only [Codes.wellFormed, Bool.and_eq_true, decide_eq_true_eq] at wf
    exact wf.1
  simp only [Codes.outbound, List.pairwise_cons, List.mem_cons, List.not_mem_nil, or_false, forall_eq_or_imp,
    forall_eq] at distinct
  obtain ⟨⟨version, mac, nettime, quality, status, test⟩, ⟨-, -, -, -, versionTest⟩, ⟨-, -, -, macTest⟩,
    ⟨-, -, nettimeTest⟩, ⟨-, qualityTest⟩, statusTest, -⟩ := distinct
  refine ⟨by simp [classify, Codes.command], by simp [classify, Codes.command, version.symm],
    by simp [classify, Codes.command, mac.symm], by simp [classify, Codes.command, nettime.symm],
    by simp [classify, Codes.command, quality.symm], by simp [classify, Codes.command, status.symm],
    by simp [classify, Codes.command, test.symm, versionTest.symm, macTest.symm, nettimeTest.symm, qualityTest.symm,
      statusTest.symm], fun code other => ?_⟩
  simp only [Codes.outbound, List.mem_cons, List.not_mem_nil, or_false, not_or] at other
  simp [classify, Codes.command, other]

/-! ### The operands of a running operation -/

/-- What a running operation reads and never writes: its operands and frame, the window, TXBUF and the parameters
(R88, R95, R268). -/
def State.operands (s : State) : OpSide × Memory × Ticks × Ticks × Byte × Ticks :=
  (s.opSide, s.txbuf, s.ackTimeout, s.retryDelay, s.maxAttempts, s.pollTimeout)

/-- A move of the sequencer leaves the operands, since it leaves both sides they belong to. -/
theorem State.operands_of_sides {s t : State} (host : t.hostSide = s.hostSide) (op : t.opSide = s.opSide) :
    t.operands = s.operands := by
  obtain ⟨-, -, ackTimeout, retryDelay, maxAttempts, pollTimeout, -, txbuf, -⟩ := (State.hostSide_ext t s).mp host
  simp only [State.operands, op, txbuf, ackTimeout, retryDelay, maxAttempts, pollTimeout]

/-- While an operation runs a decoded write is refused or works the host CRC unit (R88). -/
theorem exec_busy (i : Instr) (s : State) (busy : s.busy = true) :
    exec i s = .next s.refuse ∨ ∃ c, exec i s = .next (s.setCrc c) := by
  cases i with
  | crcSeed | crcByte => exact .inr ⟨_, rfl⟩
  | build | send | sendAck | poll | copyDl | copyResp | waitDl =>
    exact .inl (congrArg Host.Outcome.next (s.issue_busy _ _ _ _ busy))

theorem State.guarded_busy (s : State) (write : State → State) (busy : s.busy = true) :
    s.guarded write = s.refuse := by simp [State.guarded, busy]

theorem State.writeReg_operands_of_busy (s : State) (r : Reg) (w : Word) (busy : s.busy = true) :
    (s.writeReg r w).operands = s.operands := by
  cases r with
  | ackTimeout | retryDelay | maxAttempts | pollTimeout | txbuf =>
    rw [State.writeReg, s.guarded_busy _ busy]; rfl
  | _ => rfl

theorem State.writeOther_operands_of_busy (s : State) (b : BusWrite) (e : DecodeError) (busy : s.busy = true) :
    (s.writeOther b e).operands = s.operands := by
  cases e with
  | misaligned | unmapped => rfl
  | reservedBits | illegalOp =>
    have refused : s.illegal (opField b.data) = s.refuse := by simp [State.illegal, busy]
    rw [State.writeOther, refused]; rfl
  | registerWrite r => exact s.writeReg_operands_of_busy r b.data busy

theorem State.busRead_operands (s : State) (a : Offset) : (s.busRead a).operands = s.operands := by
  rw [State.busRead]
  split
  · split
    · rfl
    · rw [State.readReg]; split <;> rfl
  · rfl

theorem State.perform_operands_of_busy (s : State) (e : Event) (busy : s.busy = true) (live : e ≠ .reset) :
    (s.perform e).operands = s.operands := by
  cases e with
  | write b =>
    simp only [State.perform]
    split
    · rfl
    · exact s.writeOther_operands_of_busy b _ busy
  | read a => exact s.busRead_operands a
  | arrive => rfl
  | accept => exact State.operands_of_sides s.acceptByte_hostSide s.acceptByte_opSide
  | sent => exact State.operands_of_sides s.sendOldest_hostSide s.sendOldest_opSide
  | tick => exact State.operands_of_sides s.onTick_hostSide s.onTick_opSide
  | core => exact State.operands_of_sides s.coreStep_hostSide s.coreStep_opSide
  | reset => exact absurd rfl live

theorem step_operands_of_busy {s t : State} (stepped : step s = .next t) (busy : s.busy = true)
    (live : s.nextEvent ≠ some .reset) : t.operands = s.operands := by
  rcases step_cases s with ⟨-, core⟩ | ⟨b, rest, i, -, -, run⟩ | ⟨e, rest, inputs, -, event⟩
  · obtain rfl := Host.Outcome.next.inj (core.symm.trans stepped)
    exact State.operands_of_sides s.coreStep_hostSide s.coreStep_opSide
  · rw [run] at stepped
    rcases exec_busy i (s.taking rest).written busy with refused | ⟨c, crc⟩
    · obtain rfl := Host.Outcome.next.inj (refused.symm.trans stepped); rfl
    · obtain rfl := Host.Outcome.next.inj (crc.symm.trans stepped); rfl
  · obtain rfl := Host.Outcome.next.inj (event.symm.trans stepped)
    have notReset : e ≠ .reset := fun reset => live (by simp [State.nextEvent, inputs, reset])
    exact (s.taking rest).perform_operands_of_busy e busy notReset

/-- Settles O52, field by field of `operands`. -/
theorem operandsAreStableWhileBusy : Obligations.OperandsAreStableWhileBusy := by
  intro s t stepped busy live
  have same := step_operands_of_busy stepped busy live
  simp only [State.operands, Prod.mk.injEq, State.opSide_ext] at same
  obtain ⟨⟨op, code, len, txframe, frameLen, rxwin⟩, txbuf, ackTimeout, retryDelay, maxAttempts, pollTimeout⟩ := same
  exact ⟨op, code, len, txbuf, ackTimeout, retryDelay, maxAttempts, pollTimeout, txframe, frameLen, rxwin⟩

/-! ### The receive window -/

/-- A move that keeps what only the start of an operation writes keeps RXWIN. -/
theorem State.rxwin_of_opSide {s t : State} (op : t.opSide = s.opSide) : t.rxwin = s.rxwin :=
  congrArg OpSide.rxwin op

theorem State.issue_rxwin (s : State) (op : Op) (code : Byte) (len : Nat) (run : State → State)
    (runs : ∀ u : State, (run u).rxwin = u.rxwin) : (s.issue op code len run).rxwin = s.rxwin := by
  rcases s.issue_cases op code len run with ⟨-, issued⟩ | ⟨-, issued⟩ <;> rw [issued]
  · rfl
  · exact runs _

theorem State.buildThen_rxwin (s : State) (next : State → State) (nexts : ∀ u : State, (next u).rxwin = u.rxwin) :
    (s.buildThen next).rxwin = s.rxwin := by
  rcases s.buildThen_cases next with ⟨-, built⟩ | ⟨-, built⟩ <;> rw [built]
  · exact nexts _
  · rfl

theorem State.firstAttempt_rxwin (s : State) : s.firstAttempt.rxwin = s.rxwin := by
  rcases s.firstAttempt_cases with ⟨-, first⟩ | ⟨-, first⟩ <;> rw [first] <;> rfl

theorem State.firstPoll_rxwin (s : State) : s.firstPoll.rxwin = s.rxwin := by
  rcases s.firstPoll_cases with ⟨-, first⟩ | ⟨-, first⟩ <;> rw [first]
  · rfl
  · exact State.rxwin_of_opSide (s.setBudget s.len).beginPoll_opSide

/-- Only the copies of an idle block write RXWIN (R302). -/
theorem exec_rxwin {i : Instr} {s t : State} (ran : exec i s = .next t) :
    t.rxwin = s.rxwin ∨
    (s.busy = false ∧ ((∃ code n, i = .copyDl code n) ∨ ∃ code n, i = .copyResp code n)) := by
  cases i with
  | build code len =>
    obtain rfl : s.issue .build code len _ = t := Host.Outcome.next.inj ran
    exact .inl (s.issue_rxwin _ _ _ _ fun u => u.buildThen_rxwin _ fun _ => rfl)
  | send code len =>
    obtain rfl : s.issue .send code len _ = t := Host.Outcome.next.inj ran
    exact .inl (s.issue_rxwin _ _ _ _ fun u => u.buildThen_rxwin _ fun _ => rfl)
  | sendAck code len =>
    obtain rfl : s.issue .sendAck code len _ = t := Host.Outcome.next.inj ran
    exact .inl (s.issue_rxwin _ _ _ _ fun u => u.buildThen_rxwin _ State.firstAttempt_rxwin)
  | poll code len =>
    obtain rfl : s.issue .poll code len _ = t := Host.Outcome.next.inj ran
    exact .inl (s.issue_rxwin _ _ _ _ fun u => State.rxwin_of_opSide u.beginPoll_opSide)
  | waitDl code n =>
    obtain rfl : s.issue .waitDl code n _ = t := Host.Outcome.next.inj ran
    exact .inl (s.issue_rxwin _ _ _ _ State.firstPoll_rxwin)
  | crcSeed | crcByte =>
    obtain rfl : s.setCrc _ = t := Host.Outcome.next.inj ran
    exact .inl rfl
  | copyDl | copyResp =>
    cases busy : s.busy with
    | false => exact .inr ⟨rfl, by simp⟩
    | true =>
      rcases exec_busy _ s busy with refused | ⟨c, crc⟩
      · obtain rfl := Host.Outcome.next.inj (refused.symm.trans ran); exact .inl rfl
      · obtain rfl := Host.Outcome.next.inj (crc.symm.trans ran); exact .inl rfl

theorem State.guarded_rxwin (s : State) (write : State → State) (writes : (write s).rxwin = s.rxwin) :
    (s.guarded write).rxwin = s.rxwin := by
  rcases s.guarded_cases write with ⟨-, guard⟩ | ⟨-, guard⟩ <;> rw [guard]
  · rfl
  · exact writes

theorem State.writeOther_rxwin (s : State) (b : BusWrite) (e : DecodeError) : (s.writeOther b e).rxwin = s.rxwin := by
  cases e with
  | misaligned | unmapped => rfl
  | reservedBits | illegalOp =>
    change (s.illegal _).rxwin = s.rxwin
    rcases s.illegal_cases (opField b.data) with ⟨-, done⟩ | ⟨-, done⟩ <;> rw [done] <;> rfl
  | registerWrite r =>
    change (s.writeReg r b.data).rxwin = s.rxwin
    cases r with
    | ackTimeout | retryDelay | maxAttempts | pollTimeout | txbuf =>
      rw [State.writeReg]; exact s.guarded_rxwin _ rfl
    | _ => rfl

theorem State.perform_rxwin (s : State) (e : Event) (live : e ≠ .reset) : (s.perform e).rxwin = s.rxwin := by
  cases e with
  | write b =>
    simp only [State.perform]
    split
    · rfl
    · exact s.writeOther_rxwin b _
  | read a => exact State.rxwin_of_opSide (congrArg Prod.fst (s.busRead_operands a))
  | arrive => rfl
  | accept => exact State.rxwin_of_opSide s.acceptByte_opSide
  | sent => exact State.rxwin_of_opSide s.sendOldest_opSide
  | tick => exact State.rxwin_of_opSide s.onTick_opSide
  | core => exact State.rxwin_of_opSide s.coreStep_opSide
  | reset => exact absurd rfl live

/-- Settles O54: of the three kinds of step only a decoded write can change RXWIN, and of those only a copy. -/
theorem theWindowIsASnapshot : Obligations.TheWindowIsASnapshot := by
  intro s t stepped changed live
  rcases step_cases s with ⟨-, core⟩ | ⟨b, rest, i, inputs, decoded, run⟩ | ⟨e, rest, inputs, -, event⟩
  · obtain rfl := Host.Outcome.next.inj (core.symm.trans stepped)
    exact absurd (State.rxwin_of_opSide s.coreStep_opSide) changed
  · rcases exec_rxwin (run.symm.trans stepped) with same | ⟨idle, copy⟩
    · exact absurd same changed
    · refine ⟨idle, b, by simp [State.nextEvent, inputs], ?_⟩
      rcases copy with ⟨code, n, rfl⟩ | ⟨code, n, rfl⟩
      · exact .inl ⟨code, n, decoded⟩
      · exact .inr ⟨code, n, decoded⟩
  · obtain rfl := Host.Outcome.next.inj (event.symm.trans stepped)
    have notReset : e ≠ .reset := fun reset => live (by simp [State.nextEvent, inputs, reset])
    exact absurd ((s.taking rest).perform_rxwin e notReset) changed

end Sys2Proof.Machine
end

section
/-! SUPPORT. The address decode, and a bus access to a register as one step. -/

namespace Sys2Proof.Machine

/-! ### The register map -/

/-- An offset as the number that its three fields of the address decode make. -/
theorem toNat_offset (a : Offset) :
    a.toNat = 256 * (a.extractLsb' 8 2).toNat + 4 * (a.extractLsb' 2 6).toNat + (a.extractLsb' 0 2).toNat := by
  simp only [BitVec.extractLsb'_toNat, Nat.shiftRight_eq_div_pow]
  omega

/-- The offset of an entry of a window as a number (R31). -/
theorem toNat_windowOffset (window : BitVec 2) (i : BitVec 6) :
    (window ++ i ++ 0#2).toNat = 256 * window.toNat + 4 * i.toNat := by
  have low : i.toNat < 2 ^ 6 := i.isLt
  have shift : (256 * window.toNat + 4 * i.toNat) = ((window.toNat <<< 6) + i.toNat) <<< 2 := by
    simp only [Nat.shiftLeft_eq]; omega
  rw [BitVec.toNat_append, BitVec.toNat_append, shift, ← Nat.shiftLeft_add_eq_or_of_lt low]
  simp

theorem windowOffset_fields (window : BitVec 2) (i : BitVec 6) :
    BitVec.extractLsb' 0 2 (window ++ i ++ 0#2) = 0#2 ∧ BitVec.extractLsb' 2 6 (window ++ i ++ 0#2) = i ∧
      BitVec.extractLsb' 8 2 (window ++ i ++ 0#2) = window := by
  refine ⟨BitVec.eq_of_toNat_eq ?_, BitVec.eq_of_toNat_eq ?_, BitVec.eq_of_toNat_eq ?_⟩ <;>
    rw [BitVec.extractLsb'_toNat, toNat_windowOffset, Nat.shiftRight_eq_div_pow] <;> simp <;> omega

theorem aligned_iff (a : Offset) : aligned a = true ↔ a.toNat % 4 = 0 := by
  rw [aligned, beq_iff_eq, ← BitVec.toNat_inj, BitVec.extractLsb'_toNat]
  simp

theorem registerAt_offset (r : Reg) : registerAt r.offset = some r := by
  cases r with
  | txbuf i | txframe i | rxwin i =>
    obtain ⟨-, entry, window⟩ := windowOffset_fields _ i
    rw [registerAt, Reg.offset, window, entry]
    rfl
  | _ => rfl

theorem aligned_offset (r : Reg) : aligned r.offset = true := by
  cases r with
  | txbuf i | txframe i | rxwin i =>
    rw [aligned, Reg.offset, (windowOffset_fields _ i).1]
    rfl
  | _ => rfl

/-- Below the windows only the offset of a register is mapped. -/
theorem lowRegister_eq_some (a : Offset) (r : Reg) (mapped : lowRegister a = some r) : r.offset = a := by
  apply BitVec.eq_of_toNat_eq
  rw [lowRegister] at mapped
  split at mapped <;> simp_all
  all_goals (subst_vars; simp [Reg.offset])

theorem lowRegister_eq_none (a : Offset) (al : a.toNat % 4 = 0) : lowRegister a = none ↔ 0x03C ≤ a.toNat := by
  rw [lowRegister]
  split <;> simp_all
  omega

/-- The window field decides between the registers and the three windows. -/
theorem registerAt_cases (a : Offset) :
    (a.toNat < 256 ∧ registerAt a = lowRegister a) ∨
    (256 ≤ a.toNat ∧ ∃ r, registerAt a = some r ∧ (a.toNat % 4 = 0 → r.offset = a)) := by
  have fields := toNat_offset a
  have entry : (a.extractLsb' 2 6).toNat < 64 := (a.extractLsb' 2 6).isLt
  have byte : (a.extractLsb' 0 2).toNat < 4 := (a.extractLsb' 0 2).isLt
  have window : (a.extractLsb' 8 2).toNat < 4 := (a.extractLsb' 8 2).isLt
  rcases (show (a.extractLsb' 8 2).toNat = 0 ∨ (a.extractLsb' 8 2).toNat = 1 ∨ (a.extractLsb' 8 2).toNat = 2 ∨
    (a.extractLsb' 8 2).toNat = 3 by omega) with which | which | which | which
  · exact .inl ⟨by omega, by simp only [registerAt, which]⟩
  all_goals
    refine .inr ⟨by omega, _, by simp only [registerAt, which]; rfl, fun al => BitVec.eq_of_toNat_eq ?_⟩
    simp only [Reg.offset, toNat_windowOffset, BitVec.toNat_ofNat]
    omega

theorem offset_of_registerAt {a : Offset} {r : Reg} (al : aligned a = true) (mapped : registerAt a = some r) :
    r.offset = a := by
  rcases registerAt_cases a with ⟨-, low⟩ | ⟨-, q, found, offset⟩
  · exact lowRegister_eq_some a r (low ▸ mapped)
  · obtain rfl : q = r := Option.some.inj (found.symm.trans mapped)
    exact offset ((aligned_iff a).mp al)

/-- Settles O15: the window field splits the map, and the holes lie below the windows. -/
theorem addressDecodeInvertsTheMap : Obligations.AddressDecodeInvertsTheMap := by
  refine ⟨fun r => ⟨aligned_offset r, registerAt_offset r⟩, fun a r => offset_of_registerAt, fun a al => ?_⟩
  have multiple := (aligned_iff a).mp al
  rcases registerAt_cases a with ⟨below, low⟩ | ⟨above, r, found, -⟩
  · rw [low, lowRegister_eq_none a multiple]
    omega
  · simp only [found, reduceCtorEq, false_iff]
    omega

/-! ### Bus accesses -/

/-- A write that starts no operation goes to the offset of its register. -/
theorem offset_of_registerWrite {b : BusWrite} {r : Reg} (decoded : decode b = .error (.registerWrite r)) :
    b.offset = r.offset := by
  rw [decode] at decoded
  split at decoded
  · rename_i al
    split at decoded
    · simp at decoded
    · rw [decodeCmd] at decoded
      split at decoded
      · simp at decoded
      · split at decoded <;> simp at decoded
    · simp at decoded
    · simp at decoded
    · rename_i q _ _ _ found
      obtain rfl : q = r := by simpa using decoded
      exact (offset_of_registerAt al found).symm
  · simp at decoded

/-- The registers whose writes start an operation (R2, R87). -/
def startsOperation : Reg → Bool
  | .cmd | .crcAcc | .crcData => true
  | _ => false

theorem decode_register (r : Reg) (w : Word) (plain : startsOperation r = false) :
    decode ⟨r.offset, w⟩ = .error (.registerWrite r) := by
  rw [decode, aligned_offset, registerAt_offset]
  cases r <;> simp_all [startsOperation]

/-- A write to a register that starts no operation, in one step. -/
theorem step_write {s : State} {r : Reg} {w : Word} {rest : List Event} (plain : startsOperation r = false)
    (scheduled : s.inputs = .write ⟨r.offset, w⟩ :: rest) :
    step s = .next ((s.taking rest).writeReg r w).written := by
  have operation : (Event.write ⟨r.offset, w⟩).operation = none := by
    simp [Event.operation, decode_register r w plain]
  simp [step, scheduled, operation, State.perform, decode_register r w plain, State.writeOther]

/-- A read of a register or buffer entry, in one step. -/
theorem step_read {s : State} {r : Reg} {rest : List Event} (scheduled : s.inputs = .read r.offset :: rest) :
    step s = .next ((s.taking rest).readReg r) := by
  simp [step, scheduled, Event.operation, State.perform, State.busRead, aligned_offset, registerAt_offset]

end Sys2Proof.Machine
end

section
/-! SUPPORT. What a step can do, once: apart from five kinds of events with an effect of their own, a step takes bytes
from the channel, makes named updates of the sequencer and the registers, and may end with a completion. What every step
keeps is then an induction over those updates. -/

namespace Sys2Proof.Machine

/-! ### Named updates and completions -/

/-- The states that the named updates lead to from `s`, a completion and the takes of a read stage aside. No update goes
to phase IDLE. An operation is accepted only from an idle `s`, and a frame is stored only when `s` is in the body stage
of POLL or WAIT_DL. -/
inductive Moves (s : State) : State → Prop
  | refl : Moves s s
  | setWake {u : State} (level : Bool) : Moves s u → Moves s (u.setWake level)
  | enter {u : State} (p : Phase) (running : p ≠ .idle) : Moves s u → Moves s (u.enter p)
  | wait {u : State} (p : Phase) (n : Ticks) (running : p ≠ .idle) : Moves s u → Moves s (u.wait p n)
  | startStage {u : State} (p : Phase) (n : Len) (t : Ticks) (running : p ≠ .idle) :
      Moves s u → Moves s (u.startStage p n t)
  | startBytes {u : State} (p : Phase) (running : p ≠ .idle) : Moves s u → Moves s (u.startBytes p)
  | clearStage {u : State} : Moves s u → Moves s u.clearStage
  | setRx {u : State} (o : RxOutcome) : Moves s u → Moves s (u.setRx o)
  | tickDown {u : State} : Moves s u → Moves s u.tickDown
  | setAttempt {u : State} (n : Byte) : Moves s u → Moves s (u.setAttempt n)
  | setBudget {u : State} (n : Byte) : Moves s u → Moves s (u.setBudget n)
  | spendBudget {u : State} : Moves s u → Moves s u.spendBudget
  | countPoll {u : State} : Moves s u → Moves s u.countPoll
  | putFrame {u : State} (f : List Byte) : Moves s u → Moves s (u.putFrame f)
  | putWindow {u : State} (f : List Byte) : Moves s u → Moves s (u.putWindow f)
  | putDownlink {u : State} (f : List Byte) (body : s.phase = .rxBody) (polls : u.op = .poll ∨ u.op = .waitDl) :
      Moves s u → Moves s (u.putDownlink f)
  | putResponse {u : State} (f : List Byte) (body : s.phase = .rxBody) (polls : u.op = .poll ∨ u.op = .waitDl) :
      Moves s u → Moves s (u.putResponse f)
  | accept {u : State} (op : Op) (code : Byte) (len : Nat) (idle : s.busy = false) :
      Moves s u → Moves s (u.accept op code len)
  | answer {u : State} (r : BusReply) : Moves s u → Moves s (u.answer r)
  | refuse {u : State} : Moves s u → Moves s u.refuse
  | setCrc {u : State} (c : Crc) : Moves s u → Moves s (u.setCrc c)
  | putTxbuf {u : State} (i : Nat) (b : Byte) : Moves s u → Moves s (u.putTxbuf i b)
  | configure {u : State} (irqEn : Bool) (ackTimeout retryDelay : Ticks) (maxAttempts : Byte) (pollTimeout : Ticks)
      (draws : Nat) : Moves s u → Moves s { u with
        irqEn := irqEn, ackTimeout := ackTimeout, retryDelay := retryDelay, maxAttempts := maxAttempts
        pollTimeout := pollTimeout, draws := draws }

/-- The states that updates lead to from `s`, with or without a completion at the end (R346). -/
inductive Leads (s : State) : State → Prop
  | moves {u : State} : Moves s u → Leads s u
  | completes {u : State} (opc : Byte) (res : Res) (rcode count : Byte) (cls : Bool) (result : res ≠ .none) :
      Moves s u → Leads s (u.finish opc res rcode count cls)

/-! ### The moves of the sequencer -/

section Sequencer

variable {s u : State}

theorem Moves.complete (h : Moves s u) {res : Res} (rcode count : Byte) (cls : Bool)
    (result : res ≠ .none := by decide) :
    Leads s (u.complete res rcode count cls) := .completes _ _ _ _ _ result h

theorem Moves.beginTransmit (h : Moves s u) : Moves s u.beginTransmit := (h.setWake false).wait _ _ nofun

theorem Moves.retry (h : Moves s u) : Moves s u.retry := (h.setAttempt _).beginTransmit

theorem Moves.pollAgainLater (h : Moves s u) : Moves s u.pollAgainLater := h.countPoll.wait _ _ nofun

theorem Moves.attemptFailed (h : Moves s u) : Leads s u.attemptFailed := by
  rcases u.attemptFailed_cases with ⟨-, -, next⟩ | ⟨-, -, next⟩ | ⟨-, next⟩ <;> rw [next]
  · exact .moves (h.enter .retryWait nofun).retry
  · exact .moves (h.wait _ _ nofun)
  · exact Moves.complete (h.setAttempt _) ..

theorem Moves.testAck (h : Moves s u) : Leads s u.testAck := by
  rcases u.testAck_cases with ⟨-, next⟩ | ⟨-, next⟩ <;> rw [next]
  · exact h.complete ..
  · exact h.attemptFailed

theorem RxOutcome.res_ne_none (o : RxOutcome) : o.res ≠ .none := by cases o <;> decide

theorem Moves.receiveFailed (h : Moves s u) (o : RxOutcome) : Leads s (u.receiveFailed o) := by
  rcases u.receiveFailed_cases o with ⟨-, next⟩ | ⟨-, next⟩ | ⟨-, next⟩ | ⟨-, next⟩ <;> rw [next]
  · exact (h.setRx o).attemptFailed
  · exact (h.setRx o).complete _ _ _ (RxOutcome.res_ne_none o)
  · exact .moves (h.setRx o).pollAgainLater
  · exact .moves (h.setRx o)

theorem Moves.beginReceive (h : Moves s u) (t : Ticks) : Leads s (u.beginReceive t) := by
  rcases u.beginReceive_cases t with ⟨-, next⟩ | ⟨-, next⟩ <;> rw [next]
  · exact h.clearStage.receiveFailed _
  · exact .moves (h.clearStage.startStage _ _ _ nofun)

theorem Moves.beginPoll (h : Moves s u) : Leads s u.beginPoll := by
  rcases u.beginPoll_cases with ⟨-, next⟩ | ⟨-, next⟩ <;> rw [next]
  · rcases u.pollEmpty_cases with ⟨-, empty⟩ | ⟨-, empty⟩ | ⟨-, empty⟩ <;> rw [empty]
    · exact h.complete ..
    · exact .moves h.pollAgainLater
    · exact .moves h
  · exact h.beginReceive _

theorem Moves.storeFrame (h : Moves s u) (body : s.phase = .rxBody) (polls : u.op = .poll ∨ u.op = .waitDl) :
    Moves s u.storeFrame := by
  rcases u.storeFrame_cases with ⟨-, next⟩ | ⟨-, next⟩ <;> rw [next]
  · exact (h.enter .store nofun).putDownlink _ body polls
  · exact (h.enter .store nofun).putResponse _ body polls

theorem Moves.receiveFrame (h : Moves s u) (body : s.phase = .rxBody) : Leads s u.receiveFrame := by
  have stored := (h.setRx .frame).storeFrame body
  rcases u.receiveFrame_cases with ⟨-, next⟩ | ⟨poll, next⟩ | ⟨wait, -, next⟩ | ⟨wait, -, next⟩ | ⟨-, next⟩ <;>
    rw [next]
  · exact (h.setRx .frame).testAck
  · exact (stored (.inl poll)).complete ..
  · exact (stored (.inr wait)).countPoll.complete ..
  · exact (stored (.inr wait)).countPoll.beginPoll
  · exact .moves (h.setRx .frame)

theorem Moves.beginBody (h : Moves s u) : Leads s u.beginBody := by
  rcases u.beginBody_cases with ⟨-, next⟩ | ⟨-, next⟩ <;> rw [next]
  · exact (h.enter .rxBody nofun).receiveFailed _
  · exact .moves ((h.enter .rxBody nofun).startStage _ _ _ nofun)

theorem Moves.countDown (h : Moves s u) {ended : State → State} (ends : Leads s (ended u.tickDown)) :
    Leads s (u.countDown ended) := by
  rcases u.countDown_cases ended with ⟨-, next⟩ | ⟨-, next⟩ <;> rw [next]
  · exact ends
  · exact .moves h.tickDown

theorem Moves.beginBytes (h : Moves s u) : Moves s u.beginBytes := by
  rw [State.beginBytes]
  split <;> exact h.startBytes _ nofun

theorem Moves.endTransmit (h : Moves s u) : Leads s u.endTransmit := by
  cases op : u.op <;> simp only [State.endTransmit, op]
  case send => exact (h.setWake true).complete ..
  case sendAck => exact (h.setWake true).beginReceive _
  all_goals exact .moves (h.setWake true)

theorem Moves.endSleep (h : Moves s u) : Leads s u.endSleep := by
  rw [State.endSleep]
  split
  · exact h.spendBudget.complete ..
  · exact h.spendBudget.beginPoll

end Sequencer

theorem State.leads_stageComplete (s : State) : Leads s s.stageComplete := by
  rcases s.stageComplete_cases with ⟨-, -, next⟩ | ⟨-, -, next⟩ | ⟨body, next⟩ | ⟨-, -, next⟩ <;> rw [next]
  · exact Moves.refl.beginBody
  · exact Moves.refl.receiveFailed _
  · rcases s.checkFrame_cases with ⟨-, checked⟩ | ⟨f, -, checked⟩ <;> rw [checked]
    · exact (Moves.refl.enter .rxCheck nofun).receiveFailed _
    · exact (Moves.refl.enter .rxCheck nofun).receiveFrame body
  · exact .moves .refl

theorem State.leads_stageTest (s : State) {waiting : State → State} (waits : Leads s (waiting s)) :
    Leads s (s.stageTest waiting) := by
  rcases s.stageTest_cases waiting with ⟨-, next⟩ | ⟨-, next⟩ <;> rw [next]
  · exact s.leads_stageComplete
  · exact waits

/-- First a read stage takes at most the bytes it needs, then the updates begin. -/
def Proceeds (s t : State) : Prop :=
  ∃ n : Nat, n ≤ s.need.toNat ∧ (n ≠ 0 → s.phase.receiving = true) ∧ Leads (s.takeBytes n) t

theorem Leads.proceeds {s t : State} (h : Leads s t) : Proceeds s t := ⟨0, Nat.zero_le _, fun n => absurd rfl n, h⟩

theorem Phase.receiving_iff (p : Phase) : p.receiving = true ↔ p = .rxHdr ∨ p = .rxBody := by
  cases p <;> simp [Phase.receiving]

theorem State.proceeds_coreStep (s : State) : Proceeds s s.coreStep := by
  rcases s.coreStep_cases with ⟨phase, next⟩ | ⟨-, next⟩ | ⟨-, -, -, next⟩ <;> rw [next]
  · rcases s.stageTest_cases fun s => s.takeByte.stageTest id with ⟨-, tested⟩ | ⟨short, tested⟩ <;> rw [tested]
    · exact s.leads_stageComplete.proceeds
    · have pos : s.need.toNat ≠ 0 := fun zero => short (BitVec.eq_of_toNat_eq zero)
      exact ⟨1, by omega, fun _ => (Phase.receiving_iff _).mpr phase, State.leads_stageTest _ (.moves .refl)⟩
  · rw [State.drained]
    split
    · exact (Leads.moves (Moves.refl.wait .txSettle2 _ nofun)).proceeds
    · exact (Leads.moves .refl).proceeds
  · exact (Leads.moves .refl).proceeds

theorem State.proceeds_onTick (s : State) : Proceeds s s.onTick := by
  rcases s.onTick_cases with ⟨-, next⟩ | ⟨-, next⟩ | ⟨-, next⟩ | ⟨-, next⟩ | ⟨phase, next⟩ | ⟨-, next⟩ <;> rw [next]
  · exact (Moves.refl.countDown (.moves Moves.refl.tickDown.beginBytes)).proceeds
  · exact (Moves.refl.countDown Moves.refl.tickDown.endTransmit).proceeds
  · exact (Moves.refl.countDown (.moves Moves.refl.tickDown.retry)).proceeds
  · exact (Moves.refl.countDown Moves.refl.tickDown.endSleep).proceeds
  · exact ⟨s.need.toNat, le_rfl, fun _ => (Phase.receiving_iff _).mpr phase,
      State.leads_stageTest _ (Moves.refl.countDown (Moves.refl.tickDown.receiveFailed _))⟩
  · exact (Leads.moves .refl).proceeds

/-! ### Operations and bus accesses -/

section Accesses

variable {s u : State}

/-- A command write is refused or starts its operation from the accepted fields (R112). -/
theorem Moves.issue (h : Moves s u) (same : u.busy = s.busy) {op : Op} {code : Byte} {len : Nat} {run : State → State}
    (runs : ∀ v : State, Moves s v → Leads s (run v)) : Leads s (u.issue op code len run) := by
  rcases u.issue_cases op code len run with ⟨-, next⟩ | ⟨idle, next⟩ <;> rw [next]
  · exact .moves h.refuse
  · exact runs _ (h.accept _ _ _ (same ▸ idle))

theorem Moves.buildThen (h : Moves s u) {next : State → State} (nexts : ∀ v : State, Moves s v → Leads s (next v)) :
    Leads s (u.buildThen next) := by
  rcases u.buildThen_cases next with ⟨-, built⟩ | ⟨-, built⟩ <;> rw [built]
  · exact nexts _ ((h.enter .build nofun).putFrame _)
  · exact h.complete ..

theorem Moves.firstAttempt (h : Moves s u) : Leads s u.firstAttempt := by
  rcases u.firstAttempt_cases with ⟨-, next⟩ | ⟨-, next⟩ <;> rw [next]
  · exact (h.setAttempt _).complete ..
  · exact .moves (h.setAttempt _).beginTransmit

theorem Moves.firstPoll (h : Moves s u) : Leads s u.firstPoll := by
  rcases u.firstPoll_cases with ⟨-, next⟩ | ⟨-, next⟩ <;> rw [next]
  · exact (h.setBudget _).complete ..
  · exact (h.setBudget _).beginPoll

theorem Moves.copyOut (h : Moves s u) (b : Buffer) (n : Len) : Leads s (u.copyOut b n) :=
  ((h.enter .copy nofun).putWindow _).complete ..

theorem Moves.exec (h : Moves s u) (same : u.busy = s.busy) (i : Instr) {t : State} (ran : exec i u = .next t) :
    Leads s t := by
  cases i with
  | build =>
    obtain rfl := Host.Outcome.next.inj ran
    exact h.issue same fun v hv => hv.buildThen fun w hw => hw.complete ..
  | send =>
    obtain rfl := Host.Outcome.next.inj ran
    exact h.issue same fun v hv => hv.buildThen fun w hw => .moves hw.beginTransmit
  | sendAck =>
    obtain rfl := Host.Outcome.next.inj ran
    exact h.issue same fun v hv => hv.buildThen fun w hw => hw.firstAttempt
  | poll =>
    obtain rfl := Host.Outcome.next.inj ran
    exact h.issue same fun v hv => hv.beginPoll
  | copyDl | copyResp =>
    obtain rfl := Host.Outcome.next.inj ran
    exact h.issue same fun v hv => hv.copyOut _ _
  | waitDl =>
    obtain rfl := Host.Outcome.next.inj ran
    exact h.issue same fun v hv => hv.firstPoll
  | crcSeed | crcByte =>
    obtain rfl := Host.Outcome.next.inj ran
    exact .moves (h.setCrc _)

theorem Moves.guarded (h : Moves s u) {write : State → State} (writes : Moves s (write u)) :
    Moves s (u.guarded write) := by
  rcases u.guarded_cases write with ⟨-, next⟩ | ⟨-, next⟩ <;> rw [next]
  · exact h.refuse
  · exact writes

/-- Every register write but that of STATUS is a named update. -/
theorem Moves.writeReg (h : Moves s u) {r : Reg} (w : Word) (other : r ≠ .status) : Moves s (u.writeReg r w) := by
  cases r with
  | status => exact absurd rfl other
  | ctrl => exact h.configure ..
  | ackTimeout | retryDelay | maxAttempts | pollTimeout => rw [State.writeReg]; exact h.guarded (h.configure ..)
  | txbuf i => rw [State.writeReg]; exact h.guarded (h.putTxbuf ..)
  | _ => exact h

theorem State.leads_writeOther (s : State) (b : BusWrite) {e : DecodeError} (other : e ≠ .registerWrite .status) :
    Leads s (s.writeOther b e) := by
  cases e with
  | misaligned | unmapped => exact .moves (Moves.refl.answer _)
  | reservedBits | illegalOp =>
    rw [State.writeOther]
    rcases s.illegal_cases (opField b.data) with ⟨-, next⟩ | ⟨-, next⟩ <;> rw [next]
    · exact .moves (Moves.refl.refuse.answer _)
    · exact .completes (u := s.written) _ _ _ _ _ nofun (Moves.refl.answer _)
  | registerWrite r => exact .moves ((Moves.refl.writeReg _ (fun same => other (same ▸ rfl))).answer _)

theorem State.moves_busRead (s : State) (a : Offset) : Moves s (s.busRead a) := by
  rw [State.busRead]
  split
  · split
    · exact Moves.refl.answer _
    · rw [State.readReg]
      split
      · exact (Moves.refl.configure s.irqEn s.ackTimeout s.retryDelay s.maxAttempts s.pollTimeout
          (s.draws + 1)).answer _
      · exact Moves.refl.answer _
  · exact Moves.refl.answer _

end Accesses

/-- What a step can do: the events with an effect of their own, each with its effect, and the rest. -/
inductive StepEffect (s : State) : State → Prop
  | proceeds {t : State} : Proceeds (s.taking s.inputs.tail) t → StepEffect s t
  | clears {w : Word} {rest : List Event} (scheduled : s.inputs = .write ⟨Reg.status.offset, w⟩ :: rest) :
      StepEffect s ((s.taking rest).clearFlags (w.getLsbD 1) (w.getLsbD 2)).written
  | arrives {b : Byte} {rest : List Event} (scheduled : s.inputs = .arrive b :: rest) :
      StepEffect s { s.taking rest with chanRx := s.chanRx ++ [b] }
  | accepts {rest : List Event} (scheduled : s.inputs = .accept :: rest) : StepEffect s (s.taking rest).acceptByte
  | sends {rest : List Event} (scheduled : s.inputs = .sent :: rest) : StepEffect s (s.taking rest).sendOldest
  | resets {rest : List Event} (scheduled : s.inputs = .reset :: rest) : StepEffect s (s.taking rest).resetBlock

theorem step_effect {s t : State} (stepped : step s = .next t) : StepEffect s t := by
  rcases step_cases s with ⟨inputs, core⟩ | ⟨b, rest, i, inputs, -, run⟩ | ⟨e, rest, inputs, operation, event⟩
  · obtain rfl := Host.Outcome.next.inj (core.symm.trans stepped)
    have taken : s.taking s.inputs.tail = s := by cases s; simp_all [State.taking]
    exact .proceeds (taken.symm ▸ s.proceeds_coreStep)
  · have tail : s.inputs.tail = rest := by rw [inputs]; rfl
    have leads := (Moves.refl.answer _).exec rfl i (run.symm.trans stepped)
    exact .proceeds (tail ▸ leads.proceeds)
  · have tail : s.inputs.tail = rest := by rw [inputs]; rfl
    obtain rfl := Host.Outcome.next.inj (event.symm.trans stepped)
    cases e with
    | write b =>
      cases decoded : decode b with
      | ok i => simp [Event.operation, decoded] at operation
      | error e =>
        simp only [State.perform, decoded]
        by_cases status : e = .registerWrite .status
        · subst status
          obtain ⟨offset, data⟩ := b
          obtain rfl : offset = Reg.status.offset := offset_of_registerWrite decoded
          exact .clears inputs
        · exact .proceeds (tail ▸ ((s.taking rest).leads_writeOther b status).proceeds)
    | read a => exact .proceeds (tail ▸ (Leads.moves ((s.taking rest).moves_busRead a)).proceeds)
    | arrive b => exact .arrives inputs
    | accept => exact .accepts inputs
    | sent => exact .sends inputs
    | tick => exact .proceeds (tail ▸ (s.taking rest).proceeds_onTick)
    | core => exact .proceeds (tail ▸ (s.taking rest).proceeds_coreStep)
    | reset => exact .resets inputs

end Sys2Proof.Machine
end

section
/-! SUPPORT. What every step keeps, each by induction over the updates that a step is made of. -/

namespace Sys2Proof.Machine

/-! ### What takes, updates and completions keep -/

section Keeps

variable {s t : State}

/-- Takes keep what one staged byte keeps. -/
theorem State.takeBytes_keeps {α : Type} (f : State → α) (keeps : ∀ u b rest, f (State.stageByte u b rest) = f u)
    (s : State) (n : Nat) : f (s.takeBytes n) = f s := by
  induction n generalizing s with
  | zero => rfl
  | succ n ih =>
    rw [State.takeBytes, ih]
    rcases s.takeByte_cases with ⟨-, took⟩ | ⟨b, rest, -, took⟩ <;> rw [took]
    exact keeps s b rest

theorem State.takeBytes_chanRx (s : State) (n : Nat) : (s.takeBytes n).chanRx = s.chanRx.drop n := by
  induction n generalizing s with
  | zero => rfl
  | succ n ih =>
    rw [State.takeBytes, ih]
    rcases s.takeByte_cases with ⟨empty, took⟩ | ⟨b, rest, holds, took⟩ <;> rw [took]
    · simp [empty]
    · simp [holds]

/-- The channel's three lists (log 10). -/
def State.channel (s : State) : List Byte × List Byte × List Byte := (s.chanRx, s.chanTx, s.wire)

theorem Moves.channel (h : Moves s t) : t.channel = s.channel := by
  induction h with
  | refl => rfl
  | _ => assumption

theorem Leads.channel (h : Leads s t) : t.channel = s.channel := by
  cases h with
  | moves h => exact h.channel
  | completes _ _ _ _ _ _ h => exact h.channel

theorem Moves.inputs (h : Moves s t) : t.inputs = s.inputs := by
  induction h with
  | refl => rfl
  | _ => assumption

theorem Leads.inputs (h : Leads s t) : t.inputs = s.inputs := by
  cases h with
  | moves h => exact h.inputs
  | completes _ _ _ _ _ _ h => exact h.inputs

theorem Moves.errBusy (h : Moves s t) (set : s.errBusy = true) : t.errBusy = true := by
  induction h with
  | refl => exact set
  | refuse => rfl
  | _ => assumption

theorem Leads.errBusy (h : Leads s t) (set : s.errBusy = true) : t.errBusy = true := by
  cases h with
  | moves h => exact h.errBusy set
  | completes _ _ _ _ _ _ h => exact h.errBusy set

/-- Updates alone keep RESULT, and none of them ends an operation. -/
theorem Moves.result (h : Moves s t) : t.result = s.result ∧ (t.phase = .idle → s.phase = .idle) := by
  induction h with
  | refl => exact ⟨rfl, id⟩
  | enter p running _ ih | wait p _ running _ ih | startStage p _ _ running _ ih | startBytes p running _ ih =>
    exact ⟨ih.1, fun idle => absurd idle running⟩
  | clearStage _ ih => exact ⟨ih.1, nofun⟩
  | _ => assumption

/-- While an operation runs it stays the one that runs. -/
theorem Moves.op_of_busy (h : Moves s t) (busy : s.busy = true) : t.op = s.op := by
  induction h with
  | refl => rfl
  | accept _ _ _ idle => simp [busy] at idle
  | _ => assumption

theorem Moves.slotSide (h : Moves s t) :
    t.slotSide = s.slotSide ∨ (s.phase = .rxBody ∧ (s.op = .poll ∨ s.op = .waitDl)) := by
  induction h with
  | refl => exact .inl rfl
  | putDownlink f body polls moved | putResponse f body polls moved =>
    exact .inr ⟨body, moved.op_of_busy (s.busy_iff.mpr (by simp [body])) ▸ polls⟩
  | _ => assumption

theorem Leads.slotSide (h : Leads s t) :
    t.slotSide = s.slotSide ∨ (s.phase = .rxBody ∧ (s.op = .poll ∨ s.op = .waitDl)) := by
  cases h with
  | moves h => exact h.slotSide
  | completes _ _ _ _ _ _ h => exact h.slotSide

end Keeps

/-! ### The canonical form of the buffers -/

section Canonical

variable {s t : State}

theorem State.buffersWf_putTxbuf (i : Nat) (b : Byte) (h : s.buffersWf = true) : (s.putTxbuf i b).buffersWf = true := by
  rw [State.buffersWf_iff] at h ⊢
  obtain ⟨txbuf, rest⟩ := h
  exact ⟨Memory.wf_write _ _ _ txbuf, rest⟩

theorem State.buffersWf_putFrame (f : List Byte) (h : s.buffersWf = true) : (s.putFrame f).buffersWf = true := by
  rw [State.buffersWf_iff] at h ⊢
  obtain ⟨txbuf, txframe, rest⟩ := h
  exact ⟨txbuf, Memory.wf_writeAll _ _ _ txframe, rest⟩

theorem State.buffersWf_putWindow (f : List Byte) (h : s.buffersWf = true) : (s.putWindow f).buffersWf = true := by
  rw [State.buffersWf_iff] at h ⊢
  obtain ⟨txbuf, txframe, rxwin, rest⟩ := h
  exact ⟨txbuf, txframe, Memory.wf_writeAll _ _ _ rxwin, rest⟩

theorem State.buffersWf_putDownlink (f : List Byte) (h : s.buffersWf = true) : (s.putDownlink f).buffersWf = true := by
  rw [State.buffersWf_iff] at h ⊢
  obtain ⟨txbuf, txframe, rxwin, dlslot, rest⟩ := h
  exact ⟨txbuf, txframe, rxwin, Memory.wf_writeAll _ _ _ dlslot, rest⟩

theorem State.buffersWf_putResponse (f : List Byte) (h : s.buffersWf = true) : (s.putResponse f).buffersWf = true := by
  rw [State.buffersWf_iff] at h ⊢
  obtain ⟨txbuf, txframe, rxwin, dlslot, respslot, stg⟩ := h
  exact ⟨txbuf, txframe, rxwin, dlslot, Memory.wf_writeAll _ _ _ respslot, stg⟩

theorem State.buffersWf_stageByte (b : Byte) (rest : List Byte) (h : s.buffersWf = true) :
    (s.stageByte b rest).buffersWf = true := by
  rw [State.buffersWf_iff] at h ⊢
  obtain ⟨txbuf, txframe, rxwin, dlslot, respslot, stg⟩ := h
  exact ⟨txbuf, txframe, rxwin, dlslot, respslot, Memory.wf_write _ _ _ stg⟩

theorem State.buffersWf_takeBytes (n : Nat) (h : s.buffersWf = true) : (s.takeBytes n).buffersWf = true := by
  induction n generalizing s with
  | zero => exact h
  | succ n ih =>
    refine ih ?_
    rcases s.takeByte_cases with ⟨-, took⟩ | ⟨b, rest, -, took⟩ <;> rw [took]
    · exact h
    · exact s.buffersWf_stageByte b rest h

theorem Moves.buffersWf (h : Moves s t) (canonical : s.buffersWf = true) : t.buffersWf = true := by
  induction h with
  | refl => exact canonical
  | putTxbuf i b _ ih => exact State.buffersWf_putTxbuf i b ih
  | putFrame f _ ih => exact State.buffersWf_putFrame f ih
  | putWindow f _ ih => exact State.buffersWf_putWindow f ih
  | putDownlink f _ _ _ ih => exact State.buffersWf_putDownlink f ih
  | putResponse f _ _ _ ih => exact State.buffersWf_putResponse f ih
  | _ => assumption

theorem Leads.buffersWf (h : Leads s t) (canonical : s.buffersWf = true) : t.buffersWf = true := by
  cases h with
  | moves h => exact h.buffersWf canonical
  | completes _ _ _ _ _ _ h => exact h.buffersWf canonical

end Canonical

/-! ### The channel's transmitter -/

/-- An acceptance changes nothing outside TX_BYTES, and there it passes the byte at the running index on (R222). -/
theorem State.acceptByte_effect (s : State) :
    s.acceptByte = s ∨
    (s.phase = .txBytes ∧ ∃ p, p ≠ .idle ∧ s.acceptByte = (s.putByte s.txData).enter p) := by
  rw [State.acceptByte]
  split
  · rename_i ready
    simp only [State.txValid, Bool.and_eq_true, decide_eq_true_eq] at ready
    refine .inr ⟨ready.1, ?_⟩
    split
    · exact ⟨s.phase, by simp [ready.1], rfl⟩
    · exact ⟨.txFlush, nofun, rfl⟩
  · exact .inl rfl

theorem State.sendOldest_effect (s : State) :
    ∃ tx wire, s.sendOldest = { s with chanTx := tx, wire := wire } ∧ wire ++ tx = s.wire ++ s.chanTx := by
  rw [State.sendOldest]
  split
  · exact ⟨s.chanTx, s.wire, rfl, rfl⟩
  · rename_i b rest holds
    exact ⟨rest, s.wire ++ [b], rfl, by simp [holds]⟩

/-! ### The statements about every step -/

/-- A step takes exactly the oldest scheduled event. -/
theorem step_inputs {s t : State} (stepped : step s = .next t) : t.inputs = s.inputs.tail := by
  cases step_effect stepped with
  | proceeds h =>
    obtain ⟨n, -, -, leads⟩ := h
    exact leads.inputs.trans (State.takeBytes_keeps State.inputs (fun _ _ _ => rfl) _ n)
  | clears scheduled | arrives scheduled | resets scheduled => rw [scheduled]; rfl
  | @accepts rest scheduled =>
    rw [scheduled]
    rcases (s.taking rest).acceptByte_effect with accepted | ⟨-, p, -, accepted⟩ <;> rw [accepted] <;> rfl
  | @sends rest scheduled =>
    obtain ⟨tx, wire, sent, -⟩ := (s.taking rest).sendOldest_effect
    rw [sent, scheduled]; rfl

/-- Settles O58: the six buffers are written byte by byte, and each write keeps the canonical form. -/
theorem stepKeepsBuffersCanonical : Obligations.StepKeepsBuffersCanonical := by
  intro s t canonical stepped
  have taken (rest : List Event) : (s.taking rest).buffersWf = true := canonical
  cases step_effect stepped with
  | proceeds h =>
    obtain ⟨n, -, -, leads⟩ := h
    exact leads.buffersWf (State.buffersWf_takeBytes n (taken _))
  | clears | arrives => exact canonical
  | @accepts rest =>
    rcases (s.taking rest).acceptByte_effect with accepted | ⟨-, p, -, accepted⟩ <;> rw [accepted] <;> exact canonical
  | @sends rest =>
    obtain ⟨tx, wire, sent, -⟩ := (s.taking rest).sendOldest_effect
    rw [sent]; exact canonical
  | resets => rfl

/-- Settles O47: apart from the reset event only a write to STATUS lowers ERR_BUSY. -/
theorem errBusyIsSticky : Obligations.ErrBusyIsSticky := by
  intro s t stepped set live kept
  cases step_effect stepped with
  | proceeds h =>
    obtain ⟨n, -, -, leads⟩ := h
    exact leads.errBusy ((State.takeBytes_keeps State.errBusy (fun _ _ _ => rfl) _ n).trans set)
  | @clears w rest scheduled =>
    have bit : w.getLsbD 2 = false := kept w (by simp [State.nextEvent, scheduled, Reg.offset])
    change (s.errBusy && !w.getLsbD 2) = true
    rw [set, bit]; rfl
  | arrives => exact set
  | @accepts rest =>
    rcases (s.taking rest).acceptByte_effect with accepted | ⟨-, p, -, accepted⟩ <;> rw [accepted] <;> exact set
  | @sends rest =>
    obtain ⟨tx, wire, sent, -⟩ := (s.taking rest).sendOldest_effect
    rw [sent]; exact set
  | resets scheduled => exact absurd (by simp [State.nextEvent, scheduled]) live

/-- A step other than the reset event keeps RESULT and ends no operation, or it ends with a completion (R346). -/
theorem step_result {s t : State} (stepped : step s = .next t) (live : s.nextEvent ≠ some .reset) :
    (t.result = s.result ∧ (t.phase = .idle → s.phase = .idle)) ∨
    (t.phase = .idle ∧ t.done = true ∧ t.result.res ≠ .none) := by
  cases step_effect stepped with
  | proceeds h =>
    obtain ⟨n, -, -, leads⟩ := h
    have result := State.takeBytes_keeps State.result (fun _ _ _ => rfl) (s.taking s.inputs.tail) n
    have phase := State.takeBytes_keeps State.phase (fun _ _ _ => rfl) (s.taking s.inputs.tail) n
    cases leads with
    | moves h => exact .inl ⟨h.result.1.trans result, fun idle => phase ▸ h.result.2 idle⟩
    | completes opc res rcode count cls named h => exact .inr ⟨rfl, rfl, named⟩
  | clears | arrives => exact .inl ⟨rfl, id⟩
  | @accepts rest =>
    rcases (s.taking rest).acceptByte_effect with accepted | ⟨-, p, running, accepted⟩ <;> rw [accepted]
    · exact .inl ⟨rfl, id⟩
    · exact .inl ⟨rfl, fun idle => absurd idle running⟩
  | @sends rest =>
    obtain ⟨tx, wire, sent, -⟩ := (s.taking rest).sendOldest_effect
    rw [sent]; exact .inl ⟨rfl, id⟩
  | resets scheduled => exact absurd (by simp [State.nextEvent, scheduled]) live

/-- Settles O48, by `step_result`. -/
theorem resultChangesOnlyAtCompletion : Obligations.ResultChangesOnlyAtCompletion := by
  intro s t stepped changed live
  rcases step_result stepped live with ⟨same, -⟩ | ⟨idle, done, -⟩
  · exact absurd same changed
  · exact ⟨idle, done⟩

/-- Settles O49: the completion is that of `step_result`, and the wake line is high in every idle state that meets the
invariant. -/
theorem completionLeavesTheLineIdle : Obligations.CompletionLeavesTheLineIdle := by
  intro s t inv stepped busy ended live
  have idle : t.phase = .idle := by simpa [State.busy] using ended
  have wake : t.wake = true := (stepKeepsTheInvariant s t inv stepped).wake_of_idle ended
  rcases step_result stepped live with ⟨-, running⟩ | ⟨-, done, named⟩
  · exact absurd (running idle) (s.busy_iff.mp busy)
  · exact ⟨done, wake, named⟩

/-- Settles O53: a frame is stored only at the end of a body stage of POLL or WAIT_DL. -/
theorem slotsAreWrittenByThePollProcedureOnly : Obligations.SlotsAreWrittenByThePollProcedureOnly := by
  intro s t stepped live
  rw [← State.slotSide_ext]
  cases step_effect stepped with
  | proceeds h =>
    obtain ⟨n, -, -, leads⟩ := h
    have phase := State.takeBytes_keeps State.phase (fun _ _ _ => rfl) (s.taking s.inputs.tail) n
    have op := State.takeBytes_keeps State.op (fun _ _ _ => rfl) (s.taking s.inputs.tail) n
    rcases leads.slotSide with same | stored
    · exact .inl (same.trans (State.takeBytes_slotSide _ n))
    · rw [phase, op] at stored
      exact .inr stored
  | clears | arrives => exact .inl rfl
  | accepts => exact .inl (State.acceptByte_slotSide _)
  | sends => exact .inl (State.sendOldest_slotSide _)
  | resets scheduled => exact absurd (by simp [State.nextEvent, scheduled]) live

/-- Settles O55: only an acceptance puts a byte into the transmitter, and a departure moves the oldest one on. -/
theorem onlyFrameBytesReachTheWire : Obligations.OnlyFrameBytesReachTheWire := by
  intro s t stepped
  cases step_effect stepped with
  | proceeds h =>
    obtain ⟨n, -, -, leads⟩ := h
    have chanTx := State.takeBytes_keeps State.chanTx (fun _ _ _ => rfl) (s.taking s.inputs.tail) n
    have wire := State.takeBytes_keeps State.wire (fun _ _ _ => rfl) (s.taking s.inputs.tail) n
    have channel := leads.channel
    simp only [State.channel, Prod.mk.injEq, chanTx, wire] at channel
    obtain ⟨-, sameTx, sameWire⟩ := channel
    exact .inl (by rw [sameTx, sameWire]; rfl)
  | clears | arrives | resets => exact .inl rfl
  | @accepts rest scheduled =>
    rcases (s.taking rest).acceptByte_effect with accepted | ⟨bytes, p, -, accepted⟩ <;> rw [accepted]
    · exact .inl rfl
    · exact .inr ⟨bytes, by simp [State.nextEvent, scheduled], rfl, (List.append_assoc ..).symm⟩
  | @sends rest =>
    obtain ⟨tx, wire, sent, same⟩ := (s.taking rest).sendOldest_effect
    rw [sent]; exact .inl same

/-- Settles O57: the takes of a read stage drop the oldest bytes, and no update touches the channel. -/
theorem receivedBytesAreTakenInOrder : Obligations.ReceivedBytesAreTakenInOrder := by
  refine ⟨fun s t stepped => ?_, fun s b rest scheduled => by simp [step, scheduled]; rfl⟩
  cases step_effect stepped with
  | proceeds h =>
    obtain ⟨n, needed, stage, leads⟩ := h
    have chanRx : t.chanRx = s.chanRx.drop n :=
      (congrArg Prod.fst leads.channel).trans (State.takeBytes_chanRx _ n)
    cases n with
    | zero => exact .inl chanRx
    | succ n => exact .inr (.inr ⟨stage (Nat.succ_ne_zero n), n + 1, needed, chanRx⟩)
  | clears | resets => exact .inl rfl
  | @arrives b rest scheduled => exact .inr (.inl ⟨b, by simp [State.nextEvent, scheduled], rfl⟩)
  | @accepts rest =>
    rcases (s.taking rest).acceptByte_effect with accepted | ⟨-, p, -, accepted⟩ <;> rw [accepted] <;> exact .inl rfl
  | @sends rest =>
    obtain ⟨tx, wire, sent, -⟩ := (s.taking rest).sendOldest_effect
    rw [sent]; exact .inl rfl

end Sys2Proof.Machine
end

section
/-! SUPPORT. Bus accesses: the registers read and written, the flags, the interrupt and the reset values. -/

namespace Sys2Proof.Machine

/-! ### Reads and writes while busy or idle -/

theorem step_reset {s : State} {rest : List Event} (scheduled : s.inputs = .reset :: rest) :
    step s = .next (s.taking rest).resetBlock := by
  simp [step, scheduled, Event.operation, State.perform]

/-- A read that R89 leaves specified answers the value of the register and changes nothing else. -/
theorem answersRead_readValue {s : State} {r : Reg} {rest : List Event} (steady : s.readsFree r = false)
    (scheduled : s.inputs = .read r.offset :: rest) :
    s.answersRead rest (s.readValue r) := by
  have taken : (s.taking rest).readsFree r = false := steady
  rw [State.answersRead, step_read scheduled, State.readReg, taken]
  cases r <;> rfl

theorem State.guarded_idle (s : State) (write : State → State) (idle : s.phase = .idle) :
    s.guarded write = write s := by simp [State.guarded, State.busy, idle]

/-- Settles O40: the guards of the seven operations and of the listed registers, and the two registers without one. -/
theorem busyRefusesTheListedWrites : Obligations.BusyRefusesTheListedWrites := by
  refine ⟨fun s running => ⟨fun code n => ?_, fun r w rest scheduled listed => ?_⟩,
    fun s w rest => ⟨fun scheduled => step_write (r := .status) rfl scheduled,
      fun scheduled => step_write (r := .ctrl) rfl scheduled⟩⟩
  · have refused (op : Op) (run : State → State) : s.issue op code n run = s.refuse :=
      s.issue_busy op code n run (s.busy_iff.mpr running)
    exact ⟨congrArg _ (refused ..), congrArg _ (refused ..), congrArg _ (refused ..), congrArg _ (refused ..),
      congrArg _ (refused ..), congrArg _ (refused ..), congrArg _ (refused ..)⟩
  · have busy : (s.taking rest).busy = true := (s.taking rest).busy_iff.mpr running
    rcases listed with ⟨i, rfl⟩ | rfl | rfl | rfl | rfl <;>
      rw [step_write rfl scheduled, State.writeReg, State.guarded_busy _ _ busy] <;> rfl

/-- Settles O46: DONE and IRQ_EN after a completion, after the two writes and after the reset event. -/
theorem interruptIsDoneAndEnabled : Obligations.InterruptIsDoneAndEnabled := by
  refine ⟨fun s => rfl, fun s res rcode count cls enabled => enabled, fun s t w rest stepped => ⟨?_, ?_, ?_⟩⟩
  · intro scheduled clear
    obtain rfl := Host.Outcome.next.inj ((step_write (r := .status) rfl scheduled).symm.trans stepped)
    change (s.done && !w.getLsbD 1 && s.irqEn) = false
    simp [clear]
  · intro scheduled
    obtain rfl := Host.Outcome.next.inj ((step_write (r := .ctrl) rfl scheduled).symm.trans stepped)
    rfl
  · intro scheduled
    obtain rfl := Host.Outcome.next.inj ((step_reset scheduled).symm.trans stepped)
    rfl

/-- Settles O50: the reset event loads `State.reset` but for the channel, the parameters and the schedule. -/
theorem resetRegisterValues : Obligations.ResetRegisterValues := by
  refine ⟨⟨rfl, rfl, rfl, rfl, rfl, rfl, rfl, rfl, rfl, rfl, rfl, rfl, rfl, rfl, rfl, rfl, rfl, rfl, rfl⟩, ?_⟩
  intro s t rest scheduled stepped
  obtain rfl := Host.Outcome.next.inj ((step_reset scheduled).symm.trans stepped)
  exact ⟨rfl, rfl, rfl, rfl, rfl, rfl, rfl, rfl, rfl, rfl, rfl, rfl, rfl, rfl, rfl, rfl, rfl, rfl, rfl, rfl⟩

/-! ### Words -/

theorem State.statusWord_bits (s : State) :
    s.statusWord.getLsbD 0 = s.busy ∧ s.statusWord.getLsbD 1 = s.done ∧ s.statusWord.getLsbD 2 = s.errBusy ∧
    s.statusWord.getLsbD 3 = s.wake ∧ s.statusWord.getLsbD 4 = s.rxAvail ∧ s.statusWord.getLsbD 5 = s.txIdle ∧
    s.statusWord.extractLsb' 6 26 = 0#26 := by
  simp only [State.statusWord]
  generalize s.busy = b0; generalize s.done = b1; generalize s.errBusy = b2
  generalize s.wake = b3; generalize s.rxAvail = b4; generalize s.txIdle = b5
  revert b0 b1 b2 b3 b4 b5
  decide

theorem Result.word_fields (r : Result) :
    r.word.extractLsb' 0 4 = r.res.code ∧ r.word.getLsbD 4 = r.cls ∧ r.word.extractLsb' 5 3 = 0#3 ∧
    r.word.extractLsb' 8 8 = r.rcode ∧ r.word.extractLsb' 16 8 = r.count ∧ r.word.extractLsb' 24 8 = r.opc := by
  rw [Result.word]
  refine ⟨?_, ?_, ?_, ?_, ?_, ?_⟩
  case refine_2 => simp only [BitVec.getLsbD_append]; simp
  all_goals
    refine BitVec.eq_of_getLsbD_eq fun i hi => ?_
    simp only [BitVec.getLsbD_extractLsb', BitVec.getLsbD_append]
    interval_cases i <;> simp

theorem zeroExtend_eq_append {v : Nat} (n : Nat) (x : BitVec v) : x.zeroExtend (n + v) = 0#n ++ x := by
  refine BitVec.eq_of_getLsbD_eq fun i hi => ?_
  rw [BitVec.zeroExtend, BitVec.getLsbD_setWidth, BitVec.getLsbD_append]
  split
  · simp [hi]
  · simp [x.getLsbD_of_ge i (by omega)]

theorem byteWord_eq (b : Byte) : byteWord b = 0#24 ++ b := zeroExtend_eq_append 24 b

theorem State.configWord_eq (s : State) :
    s.configWord = if s.params.crcImpl = .byteParallel then 0x01143A40#32 else 0x00143A40#32 := by
  rw [State.configWord]
  cases s.params.crcImpl <;> decide

/-- The operations that fill TXFRAME (R89). -/
theorem State.fillsFrame_iff (s : State) :
    s.fillsFrame = true ↔ s.phase ≠ .idle ∧ (s.op = .build ∨ s.op = .send ∨ s.op = .sendAck) := by
  rw [State.fillsFrame, Bool.and_eq_true, s.busy_iff]
  cases s.op <;> simp

/-- The operations that fill RXWIN (R89). -/
theorem State.fillsWindow_iff (s : State) :
    s.fillsWindow = true ↔ s.phase ≠ .idle ∧ (s.op = .copyDl ∨ s.op = .copyResp) := by
  rw [State.fillsWindow, Bool.and_eq_true, s.busy_iff]
  cases s.op <;> simp

/-- A read of an entry answers its byte, or a free byte while an operation fills the buffer (R89). -/
theorem read_of_filled {s : State} {r : Reg} {rest : List Event} {b : Byte} {fills : Prop} [Decidable fills]
    (free : s.readsFree r = true ↔ fills)
    (value : s.readValue r = byteWord b) (scheduled : s.inputs = .read r.offset :: rest) :
    if fills then
      ∃ c : Byte, step s = .next
        { s with inputs := rest, reply := some ⟨false, some (0#24 ++ c)⟩, draws := s.draws + 1 }
    else s.answersRead rest (0#24 ++ b) := by
  split
  · rename_i filling
    have drawn : (s.taking rest).readsFree r = true := free.mpr filling
    refine ⟨Config.busyByte s.draws, ?_⟩
    rw [step_read scheduled, State.readReg, drawn, ← byteWord_eq]
    rfl
  · rename_i steady
    rw [← byteWord_eq, ← value]
    exact answersRead_readValue (by simpa [← free] using steady) scheduled

/-- Settles O45: the three words field by field, then every other register by its value. -/
theorem registerWordsShowTheState : Obligations.RegisterWordsShowTheState := by
  refine ⟨fun s rest scheduled => ?_, fun s rest scheduled => ?_, fun s rest scheduled => ?_, rfl,
    fun s r rest scheduled => ?_⟩
  · obtain ⟨busy, done, errBusy, wake, rx, tx, zeros⟩ := s.statusWord_bits
    refine ⟨s.statusWord, answersRead_readValue (r := .status) rfl scheduled, busy, done, errBusy, wake, ?_, ?_, zeros⟩
    · rw [rx, State.rxAvail]; simp
    · rw [tx, State.txIdle]; simp
  · exact ⟨s.result.word, answersRead_readValue (r := .result) rfl scheduled, s.result.word_fields⟩
  · exact s.configWord_eq ▸ answersRead_readValue (r := .config) rfl scheduled
  · have reads {v : Word} (value : s.readValue r = v) (steady : s.readsFree r = false) : s.answersRead rest v :=
      value ▸ answersRead_readValue steady scheduled
    refine ⟨?_, ?_, ?_, ?_, ?_, ?_, ?_, ?_, ?_, ?_, ?_, ?_, ?_, ?_⟩
    · rintro (rfl | rfl) <;> exact reads rfl rfl
    · rintro rfl; exact reads (zeroExtend_eq_append 31 _) rfl
    · rintro rfl; exact reads (zeroExtend_eq_append 8 _) rfl
    · rintro rfl; exact reads (zeroExtend_eq_append 8 _) rfl
    · rintro rfl; exact reads (zeroExtend_eq_append 24 _) rfl
    · rintro rfl; exact reads (zeroExtend_eq_append 8 _) rfl
    · rintro rfl; exact reads (zeroExtend_eq_append 16 _) rfl
    · rintro rfl; exact reads (zeroExtend_eq_append 25 _) rfl
    · rintro rfl; exact reads (zeroExtend_eq_append 25 _) rfl
    · rintro rfl; exact reads (zeroExtend_eq_append 25 _) rfl
    · rintro rfl; exact reads rfl rfl
    · rintro i rfl; exact reads (byteWord_eq _) rfl
    · rintro i rfl; exact read_of_filled (r := .txframe i) s.fillsFrame_iff rfl scheduled
    · rintro i rfl; exact read_of_filled (r := .rxwin i) s.fillsWindow_iff rfl scheduled

/-! ### Reading back -/

/-- No event stops the block (R340). -/
theorem step_next (s : State) : ∃ t, step s = .next t := by
  rcases step_cases s with ⟨-, core⟩ | ⟨b, rest, i, -, -, run⟩ | ⟨e, rest, -, -, event⟩
  · exact ⟨_, core⟩
  · exact run ▸ exec_next i _
  · exact ⟨_, event⟩

theorem run_two {s t u : State} (first : step s = .next t) (second : step t = .next u) :
    Sys2Proof.core.run 2 s = .next u := by
  have one : Sys2Proof.core.step s = .next t := first
  have two : Sys2Proof.core.step t = .next u := second
  simp only [Host.Core.run, one, two]

theorem readReg_reply {s : State} {r : Reg} (steady : s.readsFree r = false) :
    (s.readReg r).reply = some ⟨false, some (s.readValue r)⟩ := by
  rw [State.readReg, steady]; rfl

theorem writeReg_tickRegister {s : State} {r : Reg} {w : Word} (idle : s.phase = .idle)
    (listed : r = .ackTimeout ∨ r = .retryDelay ∨ r = .pollTimeout) :
    (s.writeReg r w).readValue r = 0#8 ++ w.extractLsb' 0 24 := by
  rcases listed with rfl | rfl | rfl <;> rw [State.writeReg, s.guarded_idle _ idle] <;> exact zeroExtend_eq_append 8 _

theorem writeReg_byteRegister {s : State} {r : Reg} {w : Word} (idle : s.phase = .idle)
    (listed : r = .maxAttempts ∨ ∃ i, r = .txbuf i) :
    (s.writeReg r w).readValue r = 0#24 ++ w.extractLsb' 0 8 := by
  rcases listed with rfl | ⟨i, rfl⟩ <;> rw [State.writeReg, s.guarded_idle _ idle]
  · exact zeroExtend_eq_append 24 _
  · have entry : (s.putTxbuf i.toNat (w.extractLsb' 0 8)).byteAt .txbuf i.toNat = w.extractLsb' 0 8 := by
      simp [State.byteAt, State.buffer, Memory.read_write, i.isLt]
    rw [State.readValue, entry, byteWord_eq]

theorem writeReg_ctrl (s : State) (w : Word) : (s.writeReg .ctrl w).readValue .ctrl = 0#31 ++ w.extractLsb' 0 1 := by
  have bit : BitVec.ofBool (w.getLsbD 0) = w.extractLsb' 0 1 := by
    refine BitVec.eq_of_getLsbD_eq fun i hi => ?_
    obtain rfl : i = 0 := by omega
    simp
  exact bit ▸ zeroExtend_eq_append 31 _

/-- A write that needs an idle block, in one step of an idle block. -/
theorem step_guardedWrite {s : State} {r : Reg} {w : Word} {rest : List Event} {write : State → State}
    (plain : startsOperation r = false)
    (guards : ∀ u : State, u.writeReg r w = u.guarded write) (idle : s.phase = .idle)
    (scheduled : s.inputs = .write ⟨r.offset, w⟩ :: rest) : step s = .next (write (s.taking rest)).written := by
  rw [step_write plain scheduled, guards, (s.taking rest).guarded_idle write idle]

/-- A write and then a read of the same register leave the events after them, and the read shows the register that the
write left. -/
theorem run_write_read {s : State} {r : Reg} {w : Word} {later : List Event}
    (scheduled : s.inputs = .write ⟨r.offset, w⟩ :: .read r.offset :: later) :
    ∃ u t : State, step s = .next u ∧ Sys2Proof.core.run 2 s = .next t ∧ t.inputs = later ∧
      (u.readsFree r = false → t.reply = some ⟨false, some (u.readValue r)⟩) := by
  obtain ⟨u, first⟩ := step_next s
  have inputs : u.inputs = .read r.offset :: later := by rw [step_inputs first, scheduled]; rfl
  have second := step_read inputs
  refine ⟨u, _, first, run_two first second, by rw [step_inputs second, inputs]; rfl, fun steady => ?_⟩
  rw [readReg_reply (s := u.taking later) steady]
  cases r <;> rfl

/-- Settles O43: a write goes to its register or its entry, and the read that follows shows what it left there. -/
theorem registerWritesChangeTheirFieldOnly : Obligations.RegisterWritesChangeTheirFieldOnly := by
  intro s r w rest scheduled
  refine ⟨?_, fun idle => ⟨?_, ?_, ?_, ?_, ?_, ?_⟩⟩
  · rintro (rfl | rfl | rfl | rfl | rfl | rfl | ⟨i, rfl⟩ | ⟨i, rfl⟩) <;> exact step_write rfl scheduled
  · rintro rfl; rw [step_guardedWrite rfl (fun _ => rfl) idle scheduled]; rfl
  · rintro rfl; rw [step_guardedWrite rfl (fun _ => rfl) idle scheduled]; rfl
  · rintro rfl; rw [step_guardedWrite rfl (fun _ => rfl) idle scheduled]; rfl
  · rintro rfl; rw [step_guardedWrite rfl (fun _ => rfl) idle scheduled]; rfl
  · rintro i rfl
    refine ⟨s.txbuf.write i.toNat (w.extractLsb' 0 8), ?_, fun k => by simp [Memory.read_write, i.isLt]⟩
    rw [step_guardedWrite rfl (fun _ => rfl) idle scheduled]; rfl
  · rintro later rfl
    obtain ⟨u, t, first, ran, inputs, shows⟩ := run_write_read scheduled
    refine ⟨t, ran, inputs, ?_, ?_, ?_, ?_, ?_⟩
    · intro listed
      have write := step_write (by rcases listed with rfl | rfl | rfl <;> rfl) scheduled
      obtain rfl := Host.Outcome.next.inj (write.symm.trans first)
      rw [← writeReg_tickRegister (s := s.taking (.read r.offset :: later)) idle listed]
      rcases listed with rfl | rfl | rfl <;> exact shows rfl
    · intro listed
      have write := step_write (by rcases listed with rfl | ⟨i, rfl⟩ <;> rfl) scheduled
      obtain rfl := Host.Outcome.next.inj (write.symm.trans first)
      rw [← writeReg_byteRegister (s := s.taking (.read r.offset :: later)) idle listed]
      rcases listed with rfl | ⟨i, rfl⟩ <;> exact shows rfl
    · rintro rfl
      obtain rfl := Host.Outcome.next.inj ((step_write rfl scheduled).symm.trans first)
      exact writeReg_ctrl s w ▸ shows rfl
    · rintro rfl
      have decoded : decode ⟨Reg.crcAcc.offset, w⟩ = .ok (.crcSeed w) := by
        simp [decode, aligned_offset, registerAt_offset]
      obtain rfl := Host.Outcome.next.inj ((stepRunsTheDecodedInstruction _ _ _ _ scheduled decoded).symm.trans first)
      exact zeroExtend_eq_append 16 (w.extractLsb' 0 16) ▸ shows rfl
    · rintro (rfl | rfl) <;> exact shows rfl

end Sys2Proof.Machine
end

section
/-! SUPPORT. COPY_DL and COPY_RESP of an idle block. -/

namespace Sys2Proof.Machine

theorem State.bytes_getElem? (s : State) (b : Buffer) (n i : Nat) (below : i < n) :
    (s.bytes b 0 n)[i]? = some (s.byteAt b i) := by
  rw [List.getElem?_eq_getElem (by simpa using below), State.getElem_bytes, Nat.zero_add]

/-- RXWIN after the copy of a slot's first bytes. -/
theorem Memory.read_writeAll_bytes (m : Memory) (s : State) (b : Buffer) (n : Nat) (fits : n ≤ 64) (i : Nat) :
    (m.writeAll 0 (s.bytes b 0 n)).read i = if i < n then some (s.byteAt b i) else m.read i := by
  rw [Memory.read_writeAll _ _ _ _ (by simpa using fits)]
  simp only [Nat.zero_le, true_and, State.bytes_length, Nat.zero_add, Nat.sub_zero]
  split
  · rename_i below
    exact s.bytes_getElem? b n i below
  · rfl

theorem State.toNat_accept_len (s : State) (op : Op) (code : Byte) (n : Nat) (fits : n < 256) :
    (s.accept op code n).len.toNat = n := by
  simp only [State.accept_len, BitVec.toNat_ofNat]; omega

/-- Settles O35: the operation runs to its completion in the step of its command. -/
theorem copyTruncatesToMaxSize : Obligations.CopyTruncatesToMaxSize := by
  intro s code n idle fits dl resp
  have free : s.busy = false := by simp [State.busy, idle]
  refine ⟨⟨s.rxwin.writeAll 0 (s.bytes .dlslot 0 (min n s.dlLen.toNat)), ?_, fun i => ?_⟩,
    ⟨s.rxwin.writeAll 0 (s.bytes .respslot 0 (min n s.respLen.toNat)), ?_, fun i => ?_⟩⟩
  · change Host.Outcome.next (s.issue .copyDl code n _) = _
    rw [State.issue_idle _ _ _ _ _ free, State.copyOut, State.toNat_accept_len _ _ _ _ fits]
    exact congrArg _ (by cases s; subst idle; rfl)
  · exact Memory.read_writeAll_bytes _ s _ _ (by omega) i
  · change Host.Outcome.next (s.issue .copyResp code n _) = _
    rw [State.issue_idle _ _ _ _ _ free, State.copyOut, State.toNat_accept_len _ _ _ _ fits]
    exact congrArg _ (by cases s; subst idle; rfl)
  · exact Memory.read_writeAll_bytes _ s _ _ (by omega) i

end Sys2Proof.Machine
end

section
/-! SUPPORT. Unspecified contents reach no operation: every move commutes with an exchange of the reset count, which
selects the unspecified contents, and of the last bus answer, as long as the bytes it reads have been written. -/

namespace Sys2Proof.Machine

/-- The state with other unspecified contents and another last bus answer (log 7, 11). -/
def State.exchange (s : State) (e : Nat) (r : Option BusReply) : State := { s with epoch := e, reply := r }

section Commutes

variable (s : State) (e : Nat) (r : Option BusReply)

theorem State.exchange_self : s.exchange s.epoch s.reply = s := rfl

/-- Both branches of a test commute. -/
theorem exchange_ite {e : Nat} {r : Option BusReply} {p : Prop} [Decidable p] {a b a' b' : State}
    (yes : a' = a.exchange e r) (no : b' = b.exchange e r) :
    (if p then a' else b') = (if p then a else b).exchange e r := by
  split
  · exact yes
  · exact no

/-! ### Moves that read no buffer -/

theorem State.attemptFailed_exchange : (s.exchange e r).attemptFailed = s.attemptFailed.exchange e r :=
  exchange_ite (exchange_ite rfl rfl) rfl

theorem State.receiveFailed_exchange (o : RxOutcome) :
    (s.exchange e r).receiveFailed o = (s.receiveFailed o).exchange e r := by
  have same : (s.exchange e r).op = s.op := rfl
  cases op : s.op <;> simp only [State.receiveFailed, same, op]
  case sendAck => exact (s.setRx o).attemptFailed_exchange e r
  all_goals rfl

theorem State.beginReceive_exchange (t : Ticks) :
    (s.exchange e r).beginReceive t = (s.beginReceive t).exchange e r :=
  exchange_ite (s.clearStage.receiveFailed_exchange e r _) rfl

theorem State.pollEmpty_exchange : (s.exchange e r).pollEmpty = s.pollEmpty.exchange e r := by
  have same : (s.exchange e r).op = s.op := rfl
  cases op : s.op <;> simp only [State.pollEmpty, same, op] <;> rfl

theorem State.beginPoll_exchange : (s.exchange e r).beginPoll = s.beginPoll.exchange e r :=
  exchange_ite (s.beginReceive_exchange e r _) (s.pollEmpty_exchange e r)

theorem State.beginBytes_exchange : (s.exchange e r).beginBytes = s.beginBytes.exchange e r := exchange_ite rfl rfl

theorem State.drained_exchange : (s.exchange e r).drained = s.drained.exchange e r := exchange_ite rfl rfl

theorem State.endTransmit_exchange : (s.exchange e r).endTransmit = s.endTransmit.exchange e r := by
  have same : (s.exchange e r).op = s.op := rfl
  cases op : s.op <;> simp only [State.endTransmit, same, op]
  case sendAck => exact (s.setWake true).beginReceive_exchange e r _
  all_goals rfl

theorem State.endSleep_exchange : (s.exchange e r).endSleep = s.endSleep.exchange e r :=
  exchange_ite rfl (s.spendBudget.beginPoll_exchange e r)

theorem State.countDown_exchange {ended : State → State}
    (ends : ended (s.tickDown.exchange e r) = (ended s.tickDown).exchange e r) :
    (s.exchange e r).countDown ended = (s.countDown ended).exchange e r := exchange_ite ends rfl

theorem State.takeByte_exchange : (s.exchange e r).takeByte = s.takeByte.exchange e r := by
  have same : (s.exchange e r).chanRx = s.chanRx := rfl
  cases holds : s.chanRx with
  | nil => simp only [State.takeByte, same, holds]
  | cons => simp only [State.takeByte, same, holds]; rfl

theorem State.takeBytes_exchange (n : Nat) : (s.exchange e r).takeBytes n = (s.takeBytes n).exchange e r := by
  induction n generalizing s with
  | zero => rfl
  | succ n ih => rw [State.takeBytes, State.takeByte_exchange, ih]; rfl

theorem State.sendOldest_exchange : (s.exchange e r).sendOldest = s.sendOldest.exchange e r := by
  have same : (s.exchange e r).chanTx = s.chanTx := rfl
  cases holds : s.chanTx with
  | nil => simp only [State.sendOldest, same, holds]
  | cons => simp only [State.sendOldest, same, holds]; rfl

theorem State.firstAttempt_exchange : (s.exchange e r).firstAttempt = s.firstAttempt.exchange e r :=
  exchange_ite rfl rfl

theorem State.firstPoll_exchange : (s.exchange e r).firstPoll = s.firstPoll.exchange e r :=
  exchange_ite rfl ((s.setBudget s.len).beginPoll_exchange e r)

theorem State.illegal_exchange (opc : Byte) : (s.exchange e r).illegal opc = (s.illegal opc).exchange e r :=
  exchange_ite rfl rfl

theorem State.writeReg_exchange (q : Reg) (w : Word) :
    (s.exchange e r).writeReg q w = (s.writeReg q w).exchange e r := by
  cases q with
  | ackTimeout | retryDelay | maxAttempts | pollTimeout | txbuf => exact exchange_ite rfl rfl
  | _ => rfl

/-! ### Written bytes -/

variable {s e r}

theorem State.byteAt_exchange {b : Buffer} {i : Nat} (written : ((s.buffer b).read i).isSome = true) :
    (s.exchange e r).byteAt b i = s.byteAt b i := by
  have same : (s.exchange e r).buffer b = s.buffer b := by cases b <;> rfl
  obtain ⟨c, holds⟩ := Option.isSome_iff_exists.mp written
  simp [State.byteAt, same, holds]

theorem State.bytes_exchange {b : Buffer} {n lo k : Nat} (written : (s.buffer b).filled n = true)
    (within : lo + k ≤ n) :
    (s.exchange e r).bytes b lo k = s.bytes b lo k := by
  refine List.map_congr_left fun i below => State.byteAt_exchange ?_
  exact (Memory.filled_iff _ _).mp written _ (by have := List.mem_range.mp below; omega)

theorem State.declared_exchange {n : Nat} (staged : s.stg.filled n = true) (header : 3 ≤ n) :
    (s.exchange e r).declared = s.declared :=
  State.byteAt_exchange (b := .stg) ((Memory.filled_iff _ _).mp staged 2 header)

theorem State.typeByte_exchange {n : Nat} (staged : s.stg.filled n = true) (type : 4 ≤ n) :
    (s.exchange e r).typeByte = s.typeByte :=
  State.byteAt_exchange (b := .stg) ((Memory.filled_iff _ _).mp staged 3 type)

theorem State.staged_exchange (staged : s.stg.filled s.taken.toNat = true) :
    (s.exchange e r).staged = s.staged :=
  State.bytes_exchange (b := .stg) staged (Nat.zero_add _).le

/-! ### The end of a receive -/

theorem State.testAck_exchange (staged : s.stg.filled s.taken.toNat = true) (type : 4 ≤ s.taken.toNat) :
    (s.exchange e r).testAck = s.testAck.exchange e r := by
  rw [State.testAck, State.typeByte_exchange staged type]
  exact exchange_ite rfl (s.attemptFailed_exchange e r)

theorem State.isDownlink_exchange (staged : s.stg.filled s.taken.toNat = true) (type : 4 ≤ s.taken.toNat) :
    (s.exchange e r).isDownlink = s.isDownlink := by
  rw [State.isDownlink, State.typeByte_exchange staged type]; rfl

theorem State.storeFrame_exchange (staged : s.stg.filled s.taken.toNat = true) (type : 4 ≤ s.taken.toNat) :
    (s.exchange e r).storeFrame = s.storeFrame.exchange e r := by
  rw [State.storeFrame, State.isDownlink_exchange staged type, State.staged_exchange staged]
  exact exchange_ite rfl rfl

theorem State.receiveFrame_exchange (staged : s.stg.filled s.taken.toNat = true) (type : 4 ≤ s.taken.toNat) :
    (s.exchange e r).receiveFrame = s.receiveFrame.exchange e r := by
  have same : (s.exchange e r).op = s.op := rfl
  have stored : ((s.exchange e r).setRx .frame).storeFrame = (s.setRx .frame).storeFrame.exchange e r :=
    State.storeFrame_exchange (s := s.setRx .frame) staged type
  cases op : s.op <;>
    simp only [State.receiveFrame, same, op, stored, State.typeByte_exchange staged type,
      State.isDownlink_exchange staged type]
  case sendAck => exact State.testAck_exchange (s := s.setRx .frame) staged type
  case waitDl => exact exchange_ite rfl ((s.setRx .frame).storeFrame.countPoll.beginPoll_exchange e r)
  all_goals rfl

theorem State.beginBody_exchange (staged : s.stg.filled s.taken.toNat = true) (header : 3 ≤ s.taken.toNat) :
    (s.exchange e r).beginBody = s.beginBody.exchange e r := by
  rw [State.beginBody, State.declared_exchange staged header]
  exact exchange_ite ((s.enter .rxBody).receiveFailed_exchange e r _) rfl

theorem State.checkFrame_exchange (staged : s.stg.filled s.taken.toNat = true) (type : 4 ≤ s.taken.toNat)
    (count : s.taken.toNat = 3 + s.declared.toNat) : (s.exchange e r).checkFrame = s.checkFrame.exchange e r := by
  have header : (s.exchange e r).header = s.header := State.bytes_exchange (b := .stg) staged (by omega)
  have body : (s.exchange e r).body = s.body := by
    rw [State.body, State.declared_exchange staged (by omega)]
    exact State.bytes_exchange (b := .stg) staged count.ge
  cases parsed : parse s.header s.body <;> simp only [State.checkFrame, header, body, parsed]
  · exact (s.enter .rxCheck).receiveFailed_exchange e r _
  · exact State.receiveFrame_exchange (s := s.enter .rxCheck) staged type

theorem State.Staging.stageComplete_exchange (h : s.Staging) (full : s.need = 0#7) :
    (s.exchange e r).stageComplete = s.stageComplete.exchange e r := by
  have same : (s.exchange e r).phase = s.phase := rfl
  have stage := h.stage
  simp only [full, BitVec.toNat_ofNat, Nat.zero_mod, Nat.add_zero] at stage
  rcases stage with ⟨header, count⟩ | ⟨body, legal, -, count⟩
  · simp only [State.stageComplete, same, header, State.declared_exchange h.staged count.ge]
    exact exchange_ite (State.beginBody_exchange h.staged count.ge) (s.receiveFailed_exchange e r _)
  · have := (lengthLegal_iff _).mp legal
    simp only [State.stageComplete, same, body]
    exact State.checkFrame_exchange h.staged (by omega) count

theorem State.Staging.stageTest_exchange (h : s.Staging) {waiting : State → State}
    (waits : s.need ≠ 0#7 → waiting (s.exchange e r) = (waiting s).exchange e r) :
    (s.exchange e r).stageTest waiting = (s.stageTest waiting).exchange e r := by
  rcases s.stageTest_cases waiting with ⟨full, tested⟩ | ⟨short, tested⟩ <;> rw [tested]
  · rw [State.stageTest, if_pos (show (s.exchange e r).need = 0#7 from full)]
    exact h.stageComplete_exchange full
  · rw [State.stageTest, if_neg (show (s.exchange e r).need ≠ 0#7 from short)]
    exact waits short

/-! ### Moves at a waiting point -/

theorem State.Inv.coreStep_exchange (h : s.Inv) : (s.exchange e r).coreStep = s.coreStep.exchange e r := by
  have same : (s.exchange e r).phase = s.phase := rfl
  cases phase : s.phase <;> simp only [State.coreStep, same, phase]
  case rxHdr | rxBody =>
    obtain ⟨staging, need⟩ := h.staging (by simp [phase])
    refine staging.stageTest_exchange fun _ => ?_
    rw [State.takeByte_exchange]
    exact (staging.takeByte need).1.stageTest_exchange fun _ => rfl
  case txFlush => exact s.drained_exchange e r

theorem State.Inv.onTick_exchange (h : s.Inv) : (s.exchange e r).onTick = s.onTick.exchange e r := by
  have same : (s.exchange e r).phase = s.phase := rfl
  cases phase : s.phase <;> simp only [State.onTick, same, phase]
  case txSettle1 => exact s.countDown_exchange e r (s.tickDown.beginBytes_exchange e r)
  case txSettle2 => exact s.countDown_exchange e r (s.tickDown.endTransmit_exchange e r)
  case retryWait => exact s.countDown_exchange e r rfl
  case pollSleep => exact s.countDown_exchange e r (s.tickDown.endSleep_exchange e r)
  case rxHdr | rxBody =>
    have staging := (h.staging (by simp [phase])).1.takeBytes s.need.toNat le_rfl
    rw [State.takeBytes_exchange]
    exact staging.stageTest_exchange fun _ =>
      State.countDown_exchange _ e r (State.receiveFailed_exchange _ e r _)

/-- The byte presented in TX_BYTES has been written (R222). -/
theorem State.Inv.txData_written (h : s.Inv) (bytes : s.phase = .txBytes) :
    (s.txframe.read s.idx.toNat).isSome = true :=
  (Memory.filled_iff _ _).mp h.slots_written.2.2 _ (h.byte_ready bytes)

theorem State.Inv.acceptByte_exchange (h : s.Inv) : (s.exchange e r).acceptByte = s.acceptByte.exchange e r := by
  by_cases bytes : s.phase = .txBytes
  · have data : (s.exchange e r).txData = s.txData := State.byteAt_exchange (b := .txframe) (h.txData_written bytes)
    rw [State.acceptByte, data]
    exact exchange_ite (exchange_ite rfl rfl) rfl
  · have quiet (u : State) (phase : u.phase ≠ .txBytes) : u.acceptByte = u := by
      simp [State.acceptByte, State.txValid, phase]
    rw [quiet s bytes]
    exact quiet (s.exchange e r) bytes

/-! ### Operations -/

theorem State.issue_exchange {op : Op} {code : Byte} {n : Nat} {run : State → State}
    (runs : s.busy = false → run ((s.accept op code n).exchange e r) = (run (s.accept op code n)).exchange e r) :
    (s.exchange e r).issue op code n run = (s.issue op code n run).exchange e r := by
  rcases s.issue_cases op code n run with ⟨busy, issued⟩ | ⟨idle, issued⟩ <;> rw [issued]
  · exact (s.exchange e r).issue_busy op code n run busy
  · exact ((s.exchange e r).issue_idle op code n run idle).trans (runs idle)

theorem State.buildThen_exchange {next : State → State}
    (loaded : s.buildLegal = true → s.txbuf.filled s.len.toNat = true)
    (nexts : ∀ u : State, next (u.exchange e r) = (next u).exchange e r) :
    (s.exchange e r).buildThen next = (s.buildThen next).exchange e r := by
  rcases s.buildThen_cases next with ⟨legal, built⟩ | ⟨illegal, built⟩ <;> rw [built, State.buildThen]
  · have payload : (s.exchange e r).payload = s.payload :=
      State.bytes_exchange (b := .txbuf) (loaded legal) (Nat.zero_add _).le
    have frame : (s.exchange e r).builtFrame = s.builtFrame := by rw [State.builtFrame, payload]; rfl
    rw [if_pos (show (s.exchange e r).buildLegal = true from legal), frame]
    exact nexts ((s.enter .build).putFrame s.builtFrame)
  · rw [if_neg (by simpa using (show (s.exchange e r).buildLegal = false from illegal))]
    rfl

theorem State.copyOut_exchange {b : Buffer} {n : Len} (written : (s.buffer b).filled n.toNat = true) :
    (s.exchange e r).copyOut b n = (s.copyOut b n).exchange e r := by
  have window : (s.exchange e r).bytes b 0 (min s.len.toNat n.toNat) = s.bytes b 0 (min s.len.toNat n.toNat) :=
    State.bytes_exchange written (by omega)
  rw [State.copyOut, show (s.exchange e r).len = s.len from rfl, window]
  rfl

/-- The operands of a decoded write fit their fields (R110, R113). -/
theorem decode_wellFormed {b : BusWrite} {i : Instr} (decoded : decode b = .ok i) : i.wellFormed = true := by
  rw [decode] at decoded
  split at decoded
  · split at decoded
    · simp at decoded
    · rw [decodeCmd] at decoded
      split at decoded
      · simp at decoded
      · split at decoded
        · rename_i op _
          obtain rfl := Except.ok.inj decoded
          have fits := (lenField b.data).isLt
          cases op <;> exact decide_eq_true fits
        · simp at decoded
    · obtain rfl := Except.ok.inj decoded; rfl
    · obtain rfl := Except.ok.inj decoded; rfl
    · simp at decoded
  · simp at decoded

/-- The host's duty of R385 for one instruction: the payload that an accepted BUILD step reads has been written. -/
def State.loadedFor (s : State) (i : Instr) : Prop :=
  ∀ code n, i = .build code n ∨ i = .send code n ∨ i = .sendAck code n → s.busy = false →
    payloadLegal (classify s.params.codes code) n = true → s.txbuf.filled n = true

theorem State.issue_build_exchange {op : Op} {code : Byte} {n : Nat} {next : State → State} (fits : n < 256)
    (loaded : s.busy = false → payloadLegal (classify s.params.codes code) n = true → s.txbuf.filled n = true)
    (nexts : ∀ u : State, next (u.exchange e r) = (next u).exchange e r) :
    (s.exchange e r).issue op code n (State.buildThen · next) =
      (s.issue op code n (State.buildThen · next)).exchange e r := by
  refine State.issue_exchange fun idle => State.buildThen_exchange (fun legal => ?_) nexts
  rw [State.buildLegal, State.toNat_accept_len _ _ _ _ fits] at legal
  rw [State.toNat_accept_len _ _ _ _ fits]
  exact loaded idle legal

theorem exec_exchange {i : Instr} {t : State} (h : s.Inv) (wf : i.wellFormed = true) (loaded : s.loadedFor i)
    (ran : exec i s = .next t) : exec i (s.exchange e r) = .next (t.exchange e r) := by
  obtain ⟨dl, resp, -⟩ := h.slots_written
  cases i with
  | build code n =>
    obtain rfl := Host.Outcome.next.inj ran
    exact congrArg _ (State.issue_build_exchange (of_decide_eq_true wf) (loaded code n (by simp)) fun _ => rfl)
  | send code n =>
    obtain rfl := Host.Outcome.next.inj ran
    exact congrArg _ (State.issue_build_exchange (of_decide_eq_true wf) (loaded code n (by simp)) fun _ => rfl)
  | sendAck code n =>
    obtain rfl := Host.Outcome.next.inj ran
    exact congrArg _ (State.issue_build_exchange (of_decide_eq_true wf) (loaded code n (by simp))
      fun u => u.firstAttempt_exchange e r)
  | poll =>
    obtain rfl := Host.Outcome.next.inj ran
    exact congrArg _ (State.issue_exchange fun _ => State.beginPoll_exchange _ e r)
  | copyDl =>
    obtain rfl := Host.Outcome.next.inj ran
    exact congrArg _ (State.issue_exchange fun _ =>
      State.copyOut_exchange (s := s.accept .copyDl _ _) (b := .dlslot) dl)
  | copyResp =>
    obtain rfl := Host.Outcome.next.inj ran
    exact congrArg _ (State.issue_exchange fun _ =>
      State.copyOut_exchange (s := s.accept .copyResp _ _) (b := .respslot) resp)
  | waitDl =>
    obtain rfl := Host.Outcome.next.inj ran
    exact congrArg _ (State.issue_exchange fun _ => State.firstPoll_exchange _ e r)
  | crcSeed | crcByte =>
    obtain rfl := Host.Outcome.next.inj ran
    rfl

/-! ### Bus accesses -/

/-- The register is an entry of TXBUF, TXFRAME or RXWIN that nothing has written since reset. -/
def State.unwrittenEntry (s : State) (q : Reg) : Prop :=
  ∃ i, (q = .txbuf i ∧ s.txbuf.read i.toNat = none) ∨ (q = .txframe i ∧ s.txframe.read i.toNat = none) ∨
    (q = .rxwin i ∧ s.rxwin.read i.toNat = none)

theorem State.readValue_exchange (q : Reg) :
    (s.exchange e r).readValue q = s.readValue q ∨ s.unwrittenEntry q := by
  cases q with
  | txbuf i =>
    cases entry : s.txbuf.read i.toNat with
    | none => exact .inr ⟨i, .inl ⟨rfl, entry⟩⟩
    | some c => exact .inl (congrArg byteWord (State.byteAt_exchange (b := .txbuf) (by simp [State.buffer, entry])))
  | txframe i =>
    cases entry : s.txframe.read i.toNat with
    | none => exact .inr ⟨i, .inr (.inl ⟨rfl, entry⟩)⟩
    | some c => exact .inl (congrArg byteWord (State.byteAt_exchange (b := .txframe) (by simp [State.buffer, entry])))
  | rxwin i =>
    cases entry : s.rxwin.read i.toNat with
    | none => exact .inr ⟨i, .inr (.inr ⟨rfl, entry⟩)⟩
    | some c => exact .inl (congrArg byteWord (State.byteAt_exchange (b := .rxwin) (by simp [State.buffer, entry])))
  | _ => exact .inl rfl

theorem State.readReg_exchange (q : Reg) :
    ∃ p, (s.exchange e r).readReg q = (s.readReg q).exchange e p ∧ (p = (s.readReg q).reply ∨ s.unwrittenEntry q) := by
  have same : (s.exchange e r).readsFree q = s.readsFree q := by cases q <;> rfl
  cases free : s.readsFree q <;> simp only [State.readReg, same, free]
  · refine ⟨some ⟨false, some ((s.exchange e r).readValue q)⟩, rfl, ?_⟩
    rcases s.readValue_exchange (e := e) (r := r) q with value | unwritten
    · exact .inl (by rw [value]; rfl)
    · exact .inr unwritten
  · exact ⟨_, rfl, .inl rfl⟩

theorem State.busRead_exchange (a : Offset) :
    ∃ p, (s.exchange e r).busRead a = (s.busRead a).exchange e p ∧
      (p = (s.busRead a).reply ∨ ∃ q, registerAt a = some q ∧ s.unwrittenEntry q) := by
  simp only [State.busRead]
  split
  · split
    · exact ⟨_, rfl, .inl rfl⟩
    · rename_i q found
      obtain ⟨p, commutes, answer⟩ := s.readReg_exchange (e := e) (r := r) q
      exact ⟨p, commutes, answer.imp_right fun unwritten => ⟨q, found, unwritten⟩⟩
  · exact ⟨_, rfl, .inl rfl⟩

theorem State.writeOther_exchange (b : BusWrite) (err : DecodeError) :
    ∃ p, (s.exchange e r).writeOther b err = (s.writeOther b err).exchange e p ∧ p = (s.writeOther b err).reply := by
  cases err with
  | misaligned | unmapped => exact ⟨_, rfl, rfl⟩
  | reservedBits | illegalOp =>
    simp only [State.writeOther, State.illegal_exchange]
    exact ⟨_, rfl, rfl⟩
  | registerWrite q =>
    simp only [State.writeOther, State.writeReg_exchange]
    exact ⟨_, rfl, rfl⟩

/-! ### Steps -/

/-- An event that is no read commutes with the exchange. The answer of a write, and the contents that the reset event
leaves, are its own. -/
theorem State.Inv.perform_exchange (h : s.Inv) (ev : Event) (other : ∀ a, ev ≠ .read a) :
    ∃ k p, (s.exchange e r).perform ev = (s.perform ev).exchange k p ∧ (r = s.reply → p = (s.perform ev).reply) := by
  have unanswered {u : State} (host : u.hostSide = s.hostSide) : r = s.reply → r = u.reply :=
    fun same => same.trans (congrArg HostSide.reply host).symm
  cases ev with
  | write b =>
    simp only [State.perform]
    split
    · exact ⟨e, _, rfl, fun _ => rfl⟩
    · obtain ⟨p, commutes, answer⟩ := s.writeOther_exchange (e := e) (r := r) b _
      exact ⟨e, p, commutes, fun _ => answer⟩
  | read a => exact absurd rfl (other a)
  | arrive b => exact ⟨e, r, rfl, id⟩
  | accept => exact ⟨e, r, h.acceptByte_exchange, unanswered s.acceptByte_hostSide⟩
  | sent => exact ⟨e, r, s.sendOldest_exchange e r, unanswered s.sendOldest_hostSide⟩
  | tick => exact ⟨e, r, h.onTick_exchange, unanswered s.onTick_hostSide⟩
  | core => exact ⟨e, r, h.coreStep_exchange, unanswered s.coreStep_hostSide⟩
  | reset => exact ⟨e + 1, none, rfl, fun _ => rfl⟩

theorem step_core (inputs : s.inputs = []) : step s = .next s.coreStep := by
  simp [step, inputs]

theorem step_exec {b : BusWrite} {rest : List Event} {i : Instr} (inputs : s.inputs = .write b :: rest)
    (decoded : decode b = .ok i) : step s = exec i (s.taking rest).written :=
  stepRunsTheDecodedInstruction s b rest i inputs decoded

theorem step_perform {ev : Event} {rest : List Event} (inputs : s.inputs = ev :: rest)
    (operation : ev.operation = none) :
    step s = .next ((s.taking rest).perform ev) := by
  simp [step, inputs, operation]

theorem State.payloadLoaded.loadedFor {b : BusWrite} {rest : List Event} {i : Instr} (h : s.payloadLoaded)
    (inputs : s.inputs = .write b :: rest) (decoded : decode b = .ok i) : s.loadedFor i := by
  intro code n build idle legal
  refine h b code n (by simp [inputs]) idle ?_ legal
  rw [decoded]
  simpa using build

/-- A step of the exchanged state. -/
theorem step_exchange {t : State} (h : s.Inv) (loaded : s.payloadLoaded) (stepped : step s = .next t) :
    ∃ k p, step (s.exchange e r) = .next (t.exchange k p) ∧ (r = s.reply → p = t.reply ∨ s.readsUnwritten) := by
  rcases step_cases s with ⟨inputs, core⟩ | ⟨b, rest, i, inputs, decoded, run⟩ | ⟨ev, rest, inputs, operation, event⟩
  · obtain rfl := Host.Outcome.next.inj (core.symm.trans stepped)
    refine ⟨e, r, ?_, fun same => .inl (same.trans (congrArg HostSide.reply s.coreStep_hostSide).symm)⟩
    rw [step_core (s := s.exchange e r) inputs, h.coreStep_exchange]
  · have taken : (s.taking rest).written.Inv := h.of_bare rfl
    have ran : exec i (s.taking rest).written = .next t := run.symm.trans stepped
    have runs (k : Nat) (p : Option BusReply) :
        exec i ((s.taking rest).written.exchange k p) = .next (t.exchange k p) :=
      exec_exchange taken (decode_wellFormed decoded) (loaded.loadedFor inputs decoded) ran
    have self := runs (s.taking rest).written.epoch (s.taking rest).written.reply
    rw [State.exchange_self] at self
    have same : t = t.exchange _ _ := Host.Outcome.next.inj (ran.symm.trans self)
    have answer := congrArg State.reply same
    refine ⟨e, some ⟨false, none⟩, ?_, fun _ => .inl answer.symm⟩
    rw [step_exec (s := s.exchange e r) inputs decoded]
    exact runs e (some ⟨false, none⟩)
  · obtain rfl := Host.Outcome.next.inj (event.symm.trans stepped)
    have taken : (s.taking rest).Inv := h.of_bare rfl
    rw [step_perform (s := s.exchange e r) inputs operation]
    by_cases read : ∃ a, ev = .read a
    · obtain ⟨a, rfl⟩ := read
      obtain ⟨p, commutes, answer⟩ := (s.taking rest).busRead_exchange (e := e) (r := r) a
      refine ⟨e, p, congrArg _ commutes, fun _ => answer.imp_right ?_⟩
      rintro ⟨q, found, i, unwritten⟩
      exact ⟨a, i, by simp [inputs], by
        rcases unwritten with ⟨rfl, entry⟩ | ⟨rfl, entry⟩ | ⟨rfl, entry⟩
        · exact .inl ⟨found, entry⟩
        · exact .inr (.inl ⟨found, entry⟩)
        · exact .inr (.inr ⟨found, entry⟩)⟩
    · obtain ⟨k, p, commutes, answer⟩ := taken.perform_exchange (e := e) (r := r) ev fun a same => read ⟨a, same⟩
      exact ⟨k, p, congrArg _ commutes, fun same => .inl (answer same)⟩

end Commutes

/-- Settles O56: the step commutes with the exchange, and the frame to transmit has been written. -/
theorem unspecifiedBytesReachNoOperation : Obligations.UnspecifiedBytesReachNoOperation := by
  refine ⟨fun s t e r h loaded stepped => step_exchange h loaded stepped, fun s h bytes => ?_⟩
  obtain ⟨c, written⟩ := Option.isSome_iff_exists.mp (h.txData_written bytes)
  simp [State.txData, State.byteAt, State.buffer, written]

end Sys2Proof.Machine
end

section
/-! SUPPORT. The layout of an encoded frame, and the bus accesses without a side effect: reads, and the accesses that the
register map answers with a bus error. -/

namespace Sys2Proof.Machine

/-! ### The encoded frame -/

/-- The declared length of a legal payload counts the code and the two CRC bytes (R182). -/
theorem declaredLength_of_legal {k : CommandClass} {n : Nat} (legal : payloadLegal k n = true) :
    declaredLength k n = 3 + n := by
  cases k with
  | sendVld | invalid => rfl
  | inquire => obtain rfl := (payloadLegal_inquire n).mp legal; rfl
  | setTest => obtain rfl := (payloadLegal_setTest n).mp legal; rfl

@[simp] theorem frameBody_length (c : Codes) (code : Byte) (p : List Byte) :
    (frameBody c code p).length = p.length + 2 := rfl

/-- An encoded frame is its markers, its covered bytes and their CRC (R183). -/
theorem encodeFrame_eq (c : Codes) (code : Byte) (p : List Byte) :
    encodeFrame c code p = 0xFA#8 :: 0xF5#8 :: (frameBody c code p ++ crcTrailer (frameBody c code p)) := rfl

theorem encodeFrame_covered (c : Codes) (code : Byte) (p : List Byte) :
    ((encodeFrame c code p).drop 2).take (p.length + 2) = frameBody c code p :=
  List.take_left' (frameBody_length c code p)

theorem encodeFrame_trailer (c : Codes) (code : Byte) (p : List Byte) :
    (encodeFrame c code p).drop (p.length + 4) = crcTrailer (frameBody c code p) :=
  List.drop_left' (l₁ := frameBody c code p) (frameBody_length c code p)

theorem encodeFrame_payload (c : Codes) (code : Byte) (p : List Byte) :
    ((encodeFrame c code p).drop 4).take p.length = p :=
  List.take_left (l₁ := p)

/-- Settles O7: the parts of the frame by their offsets, with the declared length of a legal payload. -/
theorem encodedFrameLayout : Obligations.EncodedFrameLayout := by
  intro c code p legal
  have fits : p.length ≤ 58 := payloadLegal_le legal
  refine ⟨encodeFrame_length c code p, by omega, ?_, encodeFrame_payload c code p, ?_⟩
  · rw [encodeFrame_eq, frameBody, declaredLength_of_legal legal]
    rfl
  · rw [encodeFrame_covered, encodeFrame_trailer, crcTrailer]

/-! ### Reads -/

/-- A read of any byte address, in one step. -/
theorem step_busRead {s : State} {a : Offset} {rest : List Event} (scheduled : s.inputs = .read a :: rest) :
    step s = .next ((s.taking rest).busRead a) := step_perform scheduled rfl

/-- A read sets the answer, and a read of R89's kind advances the counter of free bytes (R90; log 9). -/
theorem State.readReg_frame (s : State) (q : Reg) :
    ∃ (r : BusReply) (n : Nat), s.readReg q = { s with reply := some r, draws := n } := by
  rw [State.readReg]
  split
  · exact ⟨_, s.draws + 1, rfl⟩
  · exact ⟨_, s.draws, rfl⟩

theorem State.busRead_frame (s : State) (a : Offset) :
    ∃ (r : BusReply) (n : Nat), s.busRead a = { s with reply := some r, draws := n } := by
  rw [State.busRead]
  split
  · split
    · exact ⟨⟨true, some 0#32⟩, s.draws, rfl⟩
    · exact s.readReg_frame _
  · exact ⟨⟨true, some 0#32⟩, s.draws, rfl⟩

/-- Settles O44: a read reaches a register or is a bus error, and neither changes more. -/
theorem readsHaveNoSideEffect : Obligations.ReadsHaveNoSideEffect := by
  intro s a rest scheduled
  obtain ⟨r, n, read⟩ := (s.taking rest).busRead_frame a
  exact ⟨r, n, by rw [step_busRead scheduled, read]; rfl⟩

/-! ### Bus errors -/

/-- A misaligned offset and the gap between CONFIG2 and the windows reach no register (R81, R83). -/
theorem unmapped_of_gap {a : Offset} (gap : a.extractLsb' 0 2 ≠ 0#2 ∨ (0x03C ≤ a.toNat ∧ a.toNat ≤ 0x0FC)) :
    aligned a = true → registerAt a = none := by
  intro al
  obtain ⟨-, -, holes⟩ := addressDecodeInvertsTheMap
  rcases gap with misaligned | hole
  · exact absurd (beq_iff_eq.mp al) misaligned
  · exact (holes a al).mpr hole

theorem State.busRead_of_unmapped (s : State) {a : Offset} (unmapped : aligned a = true → registerAt a = none) :
    s.busRead a = s.busError := by
  rw [State.busRead]
  split
  · rename_i al
    rw [unmapped al]
  · rfl

theorem decode_of_unmapped {a : Offset} (w : Word) (unmapped : aligned a = true → registerAt a = none) :
    decode ⟨a, w⟩ = .error .misaligned ∨ decode ⟨a, w⟩ = .error .unmapped := by
  cases al : aligned a with
  | false => exact .inl (by simp [decode, al])
  | true => exact .inr (by simp [decode, al, unmapped al])

theorem State.perform_write_of_unmapped (s : State) {a : Offset} (w : Word)
    (unmapped : aligned a = true → registerAt a = none) :
    (Event.write ⟨a, w⟩).operation = none ∧ s.perform (.write ⟨a, w⟩) = s.busError := by
  rcases decode_of_unmapped w unmapped with decoded | decoded <;>
    simp [Event.operation, State.perform, decoded, State.writeOther]

/-- Settles O42: an access that reaches no register is a bus error, whether it writes or reads. -/
theorem busErrorsHaveNoEffect : Obligations.BusErrorsHaveNoEffect := by
  intro s a w rest gap
  have unmapped := unmapped_of_gap gap
  refine ⟨fun scheduled => ?_, fun scheduled => ?_⟩
  · obtain ⟨operation, effect⟩ := (s.taking rest).perform_write_of_unmapped w unmapped
    rw [step_perform scheduled operation, effect]
    rfl
  · rw [step_busRead scheduled, State.busRead_of_unmapped _ unmapped]
    rfl

end Sys2Proof.Machine
end

section
/-! SUPPORT. The encoding of a command word, and the two round trips of the decoder. -/

namespace Sys2Proof.Machine

/-! ### Operation codes -/

@[simp] theorem opOfByte_byte (op : Op) : opOfByte op.byte = some op := by cases op <;> rfl

theorem toNat_opByte (op : Op) : 1 ≤ op.byte.toNat ∧ op.byte.toNat ≤ 7 := by cases op <;> decide

theorem byte_of_opOfByte {b : Byte} {op : Op} (found : opOfByte b = some op) : op.byte = b := by
  apply BitVec.eq_of_toNat_eq
  rw [opOfByte] at found
  split at found <;> cases found <;> simp_all [Op.byte]

/-- The operation codes are 0x01 .. 0x07 (R111). -/
theorem exists_opOfByte_iff (b : Byte) : (∃ op, opOfByte b = some op) ↔ 1 ≤ b.toNat ∧ b.toNat ≤ 7 := by
  constructor
  · rintro ⟨op, found⟩
    rw [← byte_of_opOfByte found]
    exact toNat_opByte op
  · intro ⟨lo, hi⟩
    rcases (show b.toNat = 1 ∨ b.toNat = 2 ∨ b.toNat = 3 ∨ b.toNat = 4 ∨ b.toNat = 5 ∨ b.toNat = 6 ∨ b.toNat = 7 by
      omega) with number | number | number | number | number | number | number <;>
      simp [opOfByte, number]

/-! ### The fields of a command word -/

theorem cmdWord_fields (op : Op) (code : Byte) (len : Nat) :
    rsvField (cmdWord op code len) = 0#8 ∧ lenField (cmdWord op code len) = BitVec.ofNat 8 len ∧
      codeField (cmdWord op code len) = code ∧ opField (cmdWord op code len) = op.byte := by
  simp only [rsvField, lenField, codeField, opField, cmdWord]
  refine ⟨?_, ?_, ?_, ?_⟩
  · rw [BitVec.extractLsb'_append_eq_of_le (by omega), BitVec.extractLsb'_append_eq_of_le (by omega),
      BitVec.extractLsb'_append_eq_of_le (by omega)]
    rfl
  · rw [BitVec.extractLsb'_append_eq_of_le (by omega), BitVec.extractLsb'_append_eq_of_le (by omega),
      BitVec.extractLsb'_append_eq_of_add_le (by omega)]
    simp
  · rw [BitVec.extractLsb'_append_eq_of_le (by omega), BitVec.extractLsb'_append_eq_of_add_le (by omega)]
    simp
  · rw [BitVec.extractLsb'_append_eq_of_add_le (by omega)]
    simp

/-- A word is its four fields, RSV first (R110). -/
theorem append_fields (w : Word) : rsvField w ++ lenField w ++ codeField w ++ opField w = w := by
  simp only [rsvField, lenField, codeField, opField]
  rw [BitVec.extractLsb'_append_extractLsb'_eq_extractLsb' (by rfl),
    BitVec.extractLsb'_append_extractLsb'_eq_extractLsb' (by rfl),
    BitVec.extractLsb'_append_extractLsb'_eq_extractLsb' (by rfl), BitVec.extractLsb'_eq_self]

/-- A word with its reserved bits clear and a legal OP is the command word of its fields. -/
theorem cmdWord_of_fields {w : Word} {op : Op} (rsv : rsvField w = 0#8) (found : opOfByte (opField w) = some op) :
    cmdWord op (codeField w) (lenField w).toNat = w := by
  conv_rhs => rw [← append_fields w]
  rw [cmdWord, byte_of_opOfByte found, rsv, BitVec.ofNat_toNat, BitVec.setWidth_eq]

/-! ### Decoding a command word -/

/-- A word decodes exactly when its reserved bits are clear and its OP is legal (R110, R114). -/
theorem decodeCmd_eq_ok_iff (w : Word) (i : Instr) :
    decodeCmd w = .ok i ↔
      rsvField w = 0#8 ∧ ∃ op, opOfByte (opField w) = some op ∧ op.instr (codeField w) (lenField w).toNat = i := by
  by_cases rsv : rsvField w = 0#8
  · cases found : opOfByte (opField w) <;> simp [decodeCmd, rsv, found]
  · simp [decodeCmd, rsv]

theorem decodeCmd_cases (w : Word) :
    (∃ i, decodeCmd w = .ok i) ∨ decodeCmd w = .error .reservedBits ∨ decodeCmd w = .error .illegalOp := by
  by_cases rsv : rsvField w = 0#8
  · cases found : opOfByte (opField w) <;> simp [decodeCmd, rsv, found]
  · simp [decodeCmd, rsv]

/-- A write to CMD is decoded by its word alone. -/
theorem decode_cmd (w : Word) : decode ⟨0x000#10, w⟩ = decodeCmd w := by
  change decode ⟨Reg.cmd.offset, w⟩ = _
  rw [decode, aligned_offset, registerAt_offset]
  rfl

/-- The writes of the host CRC unit decode whatever their word (R160, R161). -/
theorem decode_crc (w : Word) :
    decode ⟨0x020#10, w⟩ = .ok (.crcSeed w) ∧ decode ⟨0x024#10, w⟩ = .ok (.crcByte w) := by
  change decode ⟨Reg.crcAcc.offset, w⟩ = _ ∧ decode ⟨Reg.crcData.offset, w⟩ = _
  simp [decode, aligned_offset, registerAt_offset]

/-- Settles O14: the reserved bits and the operation code decide. -/
theorem commandWordsAreLegalOrRefused : Obligations.CommandWordsAreLegalOrRefused := by
  intro w
  simp only [decode_cmd, decodeCmd_eq_ok_iff]
  change _ ↔ rsvField w = 0#8 ∧ 1 ≤ (opField w).toNat ∧ (opField w).toNat ≤ 7
  rw [← exists_opOfByte_iff]
  constructor
  · rintro ⟨-, rsv, op, found, -⟩
    exact ⟨rsv, op, found⟩
  · rintro ⟨rsv, op, found⟩
    exact ⟨_, rsv, op, found, rfl⟩

/-- Settles O13: the decoder runs on each of the nine writes. -/
theorem writtenOutWordsDecode : Obligations.WrittenOutWordsDecode :=
  ⟨rfl, rfl, rfl, rfl, rfl, rfl, rfl, rfl, rfl⟩

/-! ### Round trips -/

/-- The encoding of the instruction of an operation is its command word, written to CMD (R110, R117). -/
theorem encode_instr (op : Op) (code : Byte) (len : Nat) :
    encode (op.instr code len) = ⟨0x000#10, cmdWord op code len⟩ := by cases op <;> rfl

/-- An instruction is a write to CRC_ACC, a write to CRC_DATA, or an operation with its operand fields, and then its
well-formedness bounds the field LEN (R110, R113). -/
theorem instr_cases (i : Instr) :
    (∃ w, i = .crcSeed w) ∨ (∃ w, i = .crcByte w) ∨
    (∃ (op : Op) (code : Byte) (len : Nat), i = op.instr code len ∧ (i.wellFormed = true → len < 256)) := by
  cases i with
  | crcSeed w => exact .inl ⟨w, rfl⟩
  | crcByte w => exact .inr (.inl ⟨w, rfl⟩)
  | build code len => exact .inr (.inr ⟨.build, code, len, rfl, of_decide_eq_true⟩)
  | send code len => exact .inr (.inr ⟨.send, code, len, rfl, of_decide_eq_true⟩)
  | sendAck code len => exact .inr (.inr ⟨.sendAck, code, len, rfl, of_decide_eq_true⟩)
  | poll code len => exact .inr (.inr ⟨.poll, code, len, rfl, of_decide_eq_true⟩)
  | copyDl code len => exact .inr (.inr ⟨.copyDl, code, len, rfl, of_decide_eq_true⟩)
  | copyResp code len => exact .inr (.inr ⟨.copyResp, code, len, rfl, of_decide_eq_true⟩)
  | waitDl code len => exact .inr (.inr ⟨.waitDl, code, len, rfl, of_decide_eq_true⟩)

/-- A LEN that fits its field survives the command word. -/
theorem decode_cmdWord (op : Op) (code : Byte) {len : Nat} (fits : len < 256) :
    decode ⟨0x000#10, cmdWord op code len⟩ = .ok (op.instr code len) := by
  obtain ⟨rsv, length, coded, operation⟩ := cmdWord_fields op code len
  rw [decode_cmd, decodeCmd_eq_ok_iff]
  refine ⟨rsv, op, by rw [operation, opOfByte_byte], ?_⟩
  rw [coded, length, BitVec.toNat_ofNat, Nat.mod_eq_of_lt fits]

/-- Settles O11: the CRC writes carry their word, and the others are command words. -/
theorem decodeAfterEncode : Obligations.DecodeAfterEncode := by
  intro i wf
  rcases instr_cases i with ⟨w, rfl⟩ | ⟨w, rfl⟩ | ⟨op, code, len, rfl, bound⟩
  · exact (decode_crc w).1
  · exact (decode_crc w).2
  · rw [encode_instr, decode_cmdWord op code (bound wf)]

/-- A bus write that decodes is a write to CMD, CRC_ACC or CRC_DATA. -/
theorem decode_ok_cases {b : BusWrite} {i : Instr} (decoded : decode b = .ok i) :
    (b.offset = Reg.cmd.offset ∧ decodeCmd b.data = .ok i) ∨ (b.offset = Reg.crcAcc.offset ∧ i = .crcSeed b.data) ∨
    (b.offset = Reg.crcData.offset ∧ i = .crcByte b.data) := by
  rw [decode] at decoded
  split at decoded
  · rename_i al
    split at decoded
    case h_2 mapped => exact .inl ⟨(offset_of_registerAt al mapped).symm, decoded⟩
    case h_3 mapped => exact .inr (.inl ⟨(offset_of_registerAt al mapped).symm, (Except.ok.inj decoded).symm⟩)
    case h_4 mapped => exact .inr (.inr ⟨(offset_of_registerAt al mapped).symm, (Except.ok.inj decoded).symm⟩)
    all_goals cases decoded
  · cases decoded

/-- Settles O12: the register fixes the address, and the fields of a legal command word make it up again. -/
theorem encodeAfterDecode : Obligations.EncodeAfterDecode := by
  intro b i decoded
  refine ⟨?_, decode_wellFormed decoded⟩
  obtain ⟨offset, data⟩ := b
  rcases decode_ok_cases decoded with ⟨rfl, command⟩ | ⟨rfl, rfl⟩ | ⟨rfl, rfl⟩
  · obtain ⟨rsv, op, found, rfl⟩ := (decodeCmd_eq_ok_iff data i).mp command
    rw [encode_instr, cmdWord_of_fields rsv found]
    rfl
  · rfl
  · rfl

/-! ### Illegal command words -/

/-- What an illegal command word does: nothing starts, and the word completes with ILLEGAL_OP or is refused (R114). -/
theorem State.perform_illegalCommand (s : State) {w : Word} (illegal : ∀ i, decodeCmd w ≠ .ok i) :
    (Event.write ⟨0x000#10, w⟩).operation = none ∧
      s.perform (.write ⟨0x000#10, w⟩) = (s.illegal (opField w)).written := by
  rcases decodeCmd_cases w with ⟨i, decoded⟩ | decoded | decoded
  · exact absurd decoded (illegal i)
  all_goals simp [Event.operation, State.perform, decode_cmd, decoded, State.writeOther]

/-- Settles O41: the illegal word goes to the completion step of an idle block and to the refusal of a busy one. -/
theorem illegalCommandCompletesAtOnce : Obligations.IllegalCommandCompletesAtOnce := by
  intro s w rest scheduled bad
  have illegal (i : Instr) : decodeCmd w ≠ .ok i := by
    intro decoded
    obtain ⟨rsv, lo, hi⟩ := (commandWordsAreLegalOrRefused w).mp ⟨i, decode_cmd w ▸ decoded⟩
    rcases bad with reserved | zero | high
    · exact reserved rsv
    · omega
    · omega
  obtain ⟨operation, effect⟩ := (s.taking rest).perform_illegalCommand illegal
  rw [step_perform scheduled operation, effect]
  rcases (s.taking rest).illegal_cases (opField w) with ⟨busy, does⟩ | ⟨(free : s.busy = false), does⟩
  · have running : s.phase ≠ .idle := (State.busy_iff _).mp busy
    exact ⟨⟨false, none⟩, rfl, fun idle => absurd idle running, fun _ => by rw [does]; rfl⟩
  · have idle : s.phase = .idle := by simpa [State.busy] using free
    refine ⟨⟨false, none⟩, rfl, fun _ => ?_, fun running => absurd idle running⟩
    rw [does]
    cases s
    subst idle
    rfl

end Sys2Proof.Machine
end

section
/-! SUPPORT. The operations of an idle block that build a frame, and the begin of WAIT_DL. -/

namespace Sys2Proof.Machine

/-! ### The BUILD step of a legal payload -/

theorem State.busy_of_idle {s : State} (idle : s.phase = .idle) : s.busy = false := by simp [State.busy, idle]

/-- An accepted operation after its BUILD step (R112, R185). -/
def State.framed (s : State) (op : Op) (code : Byte) (len : Nat) : State :=
  ((s.accept op code len).enter .build).putFrame (encodeFrame s.params.codes code (s.bytes .txbuf 0 len))

/-- A legal command of an idle block builds its frame and goes on. -/
theorem State.issue_buildThen {s : State} (op : Op) {code : Byte} {len : Nat} (next : State → State)
    (idle : s.phase = .idle) (fits : len < 256) (legal : payloadLegal (classify s.params.codes code) len = true) :
    s.issue op code len (fun t => t.buildThen next) = next (s.framed op code len) := by
  have length := s.toNat_accept_len op code len fits
  have frame : (s.accept op code len).builtFrame = encodeFrame s.params.codes code (s.bytes .txbuf 0 len) := by
    rw [State.builtFrame, State.payload, length]
    rfl
  rw [State.issue_idle _ _ _ _ _ (State.busy_of_idle idle)]
  rcases (s.accept op code len).buildThen_cases next with ⟨-, built⟩ | ⟨illegal, -⟩
  · rw [built, frame]
    rfl
  · rw [State.buildLegal, length] at illegal
    exact absurd legal (by simpa using illegal)

theorem State.framed_frameLen (s : State) (op : Op) (code : Byte) (len : Nat) :
    (s.framed op code len).frameLen = BitVec.ofNat 7 (len + 6) := by
  simp [State.framed]

/-- TXFRAME after the BUILD step: the frame in its first entries, the others as before (R185). -/
theorem State.framed_txframe_read {s : State} (op : Op) {code : Byte} {len : Nat}
    (legal : payloadLegal (classify s.params.codes code) len = true) (i : Nat) :
    (s.framed op code len).txframe.read i =
      if i < len + 6 then (encodeFrame s.params.codes code (s.bytes .txbuf 0 len))[i]? else s.txframe.read i := by
  have bound := payloadLegal_le legal
  change (s.txframe.writeAll 0 (encodeFrame s.params.codes code (s.bytes .txbuf 0 len))).read i = _
  rw [Memory.read_writeAll _ _ _ _ (by simp; omega)]
  simp

/-- The state after the BUILD step as an update of the state before. -/
theorem State.framed_eq (s : State) (op : Op) (code : Byte) (len : Nat) :
    s.framed op code len =
      { s with
        done := false, op := op, code := code, len := BitVec.ofNat 8 len, phase := .build
        txframe := (s.framed op code len).txframe, frameLen := BitVec.ofNat 7 (len + 6) } := by
  rw [← s.framed_frameLen op code len]
  rfl

theorem countOf_frameLength {n : Nat} (fits : n ≤ 64) : countOf (BitVec.ofNat 7 n) = BitVec.ofNat 8 n := by
  apply BitVec.eq_of_toNat_eq
  simp [countOf]
  omega

/-- Settles O22: the completion step follows the BUILD step. -/
theorem buildWritesTheFrame : Obligations.BuildWritesTheFrame := by
  intro s code len idle fits legal
  have bound := payloadLegal_le legal
  refine ⟨(s.framed .build code len).txframe, ?_, State.framed_txframe_read .build legal⟩
  change Host.Outcome.next (s.issue .build code len _) = _
  rw [State.issue_buildThen .build _ idle fits legal, s.framed_frameLen, countOf_frameLength (by omega),
    s.framed_eq .build code len]
  cases s
  subst idle
  rfl

/-- Settles O24: the bracket follows the BUILD step. -/
theorem sendBeginsTheBracket : Obligations.SendBeginsTheBracket := by
  intro s code len idle fits legal
  refine ⟨(s.framed .send code len).txframe, ?_, State.framed_txframe_read .send legal⟩
  change Host.Outcome.next (s.issue .send code len _) = _
  rw [State.issue_buildThen .send _ idle fits legal, s.framed_eq .send code len]
  rfl

/-- Settles O25: the bracket of attempt 1 follows the BUILD step. -/
theorem sendAckBeginsTheFirstAttempt : Obligations.SendAckBeginsTheFirstAttempt := by
  intro s code len idle fits attempts legal
  refine ⟨(s.framed .sendAck code len).txframe, ?_, State.framed_txframe_read .sendAck legal⟩
  change Host.Outcome.next (s.issue .sendAck code len _) = _
  rw [State.issue_buildThen .sendAck _ idle fits legal]
  rcases (s.framed .sendAck code len).firstAttempt_cases with ⟨none, -⟩ | ⟨-, begins⟩
  · exact absurd none attempts
  · rw [begins, s.framed_eq .sendAck code len]
    rfl

/-! ### The first poll of WAIT_DL -/

/-- A poll of WAIT_DL over an empty channel, over received bytes, and over received bytes with a zero window
(R230, R233, R291, R313). -/
theorem State.beginPoll_waitDl {s : State} (op : s.op = .waitDl) :
    (s.chanRx = [] → s.beginPoll = s.pollAgainLater) ∧
    (s.chanRx ≠ [] → s.pollTimeout ≠ 0#24 → s.beginPoll = s.clearStage.startStage .rxHdr 3#7 s.pollTimeout) ∧
    (s.chanRx ≠ [] → s.pollTimeout = 0#24 → s.beginPoll = (s.clearStage.setRx .truncated).pollAgainLater) := by
  refine ⟨fun empty => ?_, fun bytes window => ?_, fun bytes window => ?_⟩
  · simp [State.beginPoll, State.rxAvail, empty, State.pollEmpty, op]
  · simp [State.beginPoll, State.rxAvail, bytes, State.beginReceive, window]
  · simp [State.beginPoll, State.rxAvail, bytes, State.beginReceive, window, State.receiveFailed, op]

/-- WAIT_DL of an idle block runs its first poll, none for a zero budget. -/
theorem execWaitDl_idle {s : State} (code : Byte) (n : Nat) (idle : s.phase = .idle) :
    exec (.waitDl code n) s = .next (s.accept .waitDl code n).firstPoll := by
  change Host.Outcome.next (s.issue .waitDl code n _) = _
  rw [State.issue_idle _ _ _ _ _ (State.busy_of_idle idle)]

/-- Settles O36: the budget, the channel and the window decide how the first poll goes. -/
theorem waitDlBegins : Obligations.WaitDlBegins := by
  intro s code n idle fits
  rw [execWaitDl_idle code n idle]
  have budget : n ≠ 0 → (s.accept .waitDl code n).firstPoll =
      ((s.accept .waitDl code n).setBudget (BitVec.ofNat 8 n)).beginPoll := by
    intro positive
    rcases (s.accept .waitDl code n).firstPoll_cases with ⟨zero, -⟩ | ⟨-, polls⟩
    · have length := s.toNat_accept_len .waitDl code n fits
      rw [zero] at length
      exact absurd length.symm positive
    · exact polls
  obtain ⟨empty, receive, truncated⟩ :=
    State.beginPoll_waitDl (s := (s.accept .waitDl code n).setBudget (BitVec.ofNat 8 n)) rfl
  refine ⟨fun zero => ?_, fun positive none => ?_, fun positive bytes window => ?_, fun positive bytes window => ?_⟩
  · subst zero
    cases s
    subst idle
    rfl
  · rw [budget positive, empty none]
    rfl
  · rw [budget positive, receive bytes window]
    rfl
  · rw [budget positive, truncated bytes window]
    rfl

end Sys2Proof.Machine
end

section
/-! SUPPORT. The CRC update is linear and injective, and a byte equal to the top byte of the accumulator only shifts it.
The derived forms, the residue test and the host CRC unit follow. -/

namespace Sys2Proof.Machine

/-! ### One message bit -/

theorem xor_interchange {w : Nat} (p q r t : BitVec w) : (p ^^^ q) ^^^ (r ^^^ t) = (p ^^^ r) ^^^ (q ^^^ t) := by
  rw [BitVec.xor_assoc, ← BitVec.xor_assoc q, BitVec.xor_comm q r, BitVec.xor_assoc r, ← BitVec.xor_assoc]

/-- A message bit is fed back exactly when it differs from the top bit of the accumulator. -/
theorem crcBit_eq (acc : Crc) (m : Bool) :
    crcBit acc m = (acc <<< 1) ^^^ bif acc.getLsbD 15 ^^ m then Config.crcPoly else 0#16 := by
  rw [crcBit]
  cases acc.getLsbD 15 ^^ m <;> simp

/-- The feedback of a bit is linear, and so is the shift. -/
theorem crcBit_xor (a a' : Crc) (m m' : Bool) : crcBit (a ^^^ a') (m ^^ m') = crcBit a m ^^^ crcBit a' m' := by
  have feedback : ((a ^^^ a').getLsbD 15 ^^ (m ^^ m')) = ((a.getLsbD 15 ^^ m) ^^ (a'.getLsbD 15 ^^ m')) := by
    simp only [BitVec.getLsbD_xor, Bool.xor_assoc, Bool.xor_left_comm]
  rw [crcBit_eq, crcBit_eq, crcBit_eq, feedback, BitVec.shiftLeft_xor_distrib]
  have selects (p q : Bool) (c : Crc) : (bif p ^^ q then c else 0#16) =
      (bif p then c else 0#16) ^^^ bif q then c else 0#16 := by
    cases p <;> cases q <;> simp
  rw [selects, xor_interchange]

/-- A message bit equal to the top bit of the accumulator only shifts it. -/
theorem crcBit_top (acc : Crc) {m : Bool} (top : m = acc.getLsbD 15) : crcBit acc m = acc <<< 1 := by
  simp [crcBit, top]

/-- The polynomial has bit 0, so that feedback shows in the bit that the shift clears. -/
theorem eq_zero_of_crcBit {a : Crc} (zero : crcBit a false = 0#16) : a = 0#16 := by
  rw [crcBit_eq, Bool.xor_false] at zero
  have top : a.getLsbD 15 = false := by
    cases fed : a.getLsbD 15
    · rfl
    · have bit := congrArg (·.getLsbD 0) zero
      simp only [fed, cond_true, Config.crcPoly] at bit
      simp at bit
  refine BitVec.eq_of_getLsbD_eq fun i hi => ?_
  by_cases last : i = 15
  · rw [last, top]; rfl
  · have bit := congrArg (·.getLsbD (i + 1)) zero
    simp only [top, cond_false, BitVec.xor_zero, BitVec.getLsbD_shiftLeft] at bit
    simpa [show i + 1 < 16 by omega] using bit

theorem crcBit_injective (m : Bool) : Function.Injective (crcBit · m) := by
  intro a a' same
  have difference : crcBit (a ^^^ a') false = 0#16 := by
    have linear := crcBit_xor a a' m m
    rwa [Bool.xor_self, show crcBit a m = crcBit a' m from same, BitVec.xor_self] at linear
  exact BitVec.xor_eq_zero_iff.mp (eq_zero_of_crcBit difference)

/-! ### One byte -/

/-- The update of a byte, bit by bit (R151). -/
theorem crcByte_eq (acc : Crc) (b : Byte) :
    crcByte acc b =
      crcBit (crcBit (crcBit (crcBit (crcBit (crcBit (crcBit (crcBit acc
        (b.getLsbD 7)) (b.getLsbD 6)) (b.getLsbD 5)) (b.getLsbD 4))
        (b.getLsbD 3)) (b.getLsbD 2)) (b.getLsbD 1)) (b.getLsbD 0) := rfl

theorem crcByte_xor (a a' : Crc) (b b' : Byte) :
    crcByte (a ^^^ a') (b ^^^ b') = crcByte a b ^^^ crcByte a' b' := by
  simp only [crcByte_eq, BitVec.getLsbD_xor, crcBit_xor]

theorem crcByte_injective (b : Byte) : Function.Injective (crcByte · b) := by
  unfold crcByte
  induction bitsMsbFirst b with
  | nil => exact Function.injective_id
  | cons m ms ih => exact ih.comp (crcBit_injective m)

/-- The high byte of the accumulator as the message byte: each bit meets its equal at the top. -/
theorem crcByte_hiByte (acc : Crc) : crcByte acc (hiByte acc) = acc <<< 8 := by
  have top (k : Nat) (hk : k < 8) : (hiByte acc).getLsbD (7 - k) = (acc <<< k).getLsbD 15 := by
    simp only [hiByte, BitVec.getLsbD_extractLsb', BitVec.getLsbD_shiftLeft, show 8 + (7 - k) = 15 - k by omega]
    simp [show 7 - k < 8 by omega, show ¬ 15 < k by omega]
  have shift (k : Nat) (hk : k < 8) : crcBit (acc <<< k) ((hiByte acc).getLsbD (7 - k)) = acc <<< (k + 1) := by
    rw [crcBit_top _ (top k hk), BitVec.shiftLeft_add]
  calc crcByte acc (hiByte acc)
    _ = crcByte (acc <<< 0) (hiByte acc) := by rw [BitVec.shiftLeft_zero]
    _ = acc <<< 8 := by
      rw [crcByte_eq, shift 0, shift 1, shift 2, shift 3, shift 4, shift 5, shift 6, shift 7] <;> decide

/-! ### The derived forms -/

/-- The table form (R154): the high byte of the accumulator cancels into the message byte. -/
theorem crcByteTable_eq (acc : Crc) (b : Byte) : crcByteTable acc b = crcByte acc b :=
  calc crcByteTable acc b
    _ = crcByte acc (hiByte acc) ^^^ crcByte 0#16 (hiByte acc ^^^ b) := by
      rw [crcByteTable, crcTable, crcByte_hiByte]
    _ = crcByte acc b := by
      rw [← crcByte_xor, BitVec.xor_zero, ← BitVec.xor_assoc, BitVec.xor_self, BitVec.zero_xor]

/-- Eight shifts of the byte-wise form feed eight zero bits. -/
theorem crcByteWise_eq_crcByte_zero (acc : Crc) (b : Byte) :
    crcByteWise acc b = crcByte (acc ^^^ (b.zeroExtend 16 <<< 8)) 0#8 := by
  have shift (a : Crc) : crcShift a = crcBit a false := by simp [crcShift, crcBit]
  simp only [crcByteWise, shift]
  rfl

/-- The byte-wise form (R152): the byte at the top of the accumulator cancels the message byte and shifts out. -/
theorem crcByteWise_eq (acc : Crc) (b : Byte) : crcByteWise acc b = crcByte acc b := by
  have high : hiByte (b.zeroExtend 16 <<< 8) = b := by
    refine BitVec.eq_of_getLsbD_eq fun i hi => ?_
    simp [hiByte, hi, show 8 + i < 16 by omega]
  have out : crcByte (b.zeroExtend 16 <<< 8) b = 0#16 := by
    have top := crcByte_hiByte (b.zeroExtend 16 <<< 8)
    rwa [high, ← BitVec.shiftLeft_add, BitVec.shiftLeft_eq_zero (Nat.le_refl 16)] at top
  calc crcByteWise acc b
    _ = crcByte (acc ^^^ (b.zeroExtend 16 <<< 8)) (b ^^^ b) := by rw [crcByteWise_eq_crcByte_zero, BitVec.xor_self]
    _ = crcByte acc b := by rw [crcByte_xor, out, BitVec.xor_zero]

/-- The entry of the table in closed form: the feedback of the byte at the three bits of the polynomial. -/
def crcFeedback (x : Byte) : Crc :=
  let e := (x ^^^ (x >>> 4)).zeroExtend 16
  (e <<< 12) ^^^ (e <<< 5) ^^^ e

theorem crcFeedback_xor (x y : Byte) : crcFeedback (x ^^^ y) = crcFeedback x ^^^ crcFeedback y := by
  have folded : x ^^^ y ^^^ ((x ^^^ y) >>> 4) = (x ^^^ (x >>> 4)) ^^^ (y ^^^ (y >>> 4)) := by
    rw [BitVec.ushiftRight_xor_distrib, xor_interchange]
  rw [crcFeedback, folded, crcFeedback, crcFeedback]
  generalize x ^^^ (x >>> 4) = e, y ^^^ (y >>> 4) = e'
  simp only [BitVec.zeroExtend_eq_setWidth, BitVec.setWidth_xor, BitVec.shiftLeft_xor_distrib]
  rw [xor_interchange (e.setWidth 16 <<< 12), xor_interchange (_ ^^^ _)]

/-- The sixteen equations, bit by bit: the low byte moves up, and the rest is the feedback (R153). -/
theorem crcByteParallel_eq_feedback (acc : Crc) (b : Byte) :
    crcByteParallel acc b = (acc <<< 8) ^^^ crcFeedback (hiByte acc ^^^ b) := by
  refine BitVec.eq_of_getLsbD_eq fun i hi => ?_
  rw [crcByteParallel, crcFeedback]
  generalize hiByte acc ^^^ b = x
  simp only [BitVec.getLsbD_setWidth, BitVec.getLsbD_ofBoolListLE, BitVec.getLsbD_xor, BitVec.getLsbD_shiftLeft,
    BitVec.getLsbD_ushiftRight]
  interval_cases i <;> simp

theorem crcTable_halves (n : BitVec 4) :
    crcTable (n ++ 0#4) = crcFeedback (n ++ 0#4) ∧ crcTable (0#4 ++ n) = crcFeedback (0#4 ++ n) := by
  revert n
  decide

/-- The table is the feedback: both are linear, and they agree on the two halves of a byte. -/
theorem crcTable_eq_feedback (x : Byte) : crcTable x = crcFeedback x := by
  obtain ⟨h, l, rfl⟩ : ∃ h l : BitVec 4, x = (h ++ 0#4) ^^^ (0#4 ++ l) := by
    refine ⟨x.extractLsb' 4 4, x.extractLsb' 0 4, ?_⟩
    rw [BitVec.xor_append, BitVec.xor_zero, BitVec.zero_xor]
    exact (BitVec.extractLsb'_append_extractLsb' (w := 4) (len := 4)).symm
  have linear : crcTable ((h ++ 0#4) ^^^ (0#4 ++ l)) = crcTable (h ++ 0#4) ^^^ crcTable (0#4 ++ l) :=
    crcByte_xor 0#16 0#16 _ _
  rw [linear, (crcTable_halves h).1, (crcTable_halves l).2, crcFeedback_xor]

/-- The byte-parallel form (R153) computes what the table form looks up. -/
theorem crcByteParallel_eq (acc : Crc) (b : Byte) : crcByteParallel acc b = crcByte acc b := by
  rw [crcByteParallel_eq_feedback, ← crcTable_eq_feedback]
  exact crcByteTable_eq acc b

/-- Settles O2: every form has the value of the table form. -/
theorem crcFormsAgree : Obligations.CrcFormsAgree := by
  intro acc b
  refine ⟨crcByteWise_eq acc b, crcByteParallel_eq acc b, crcByteTable_eq acc b, fun impl => ?_⟩
  cases impl
  · rfl
  · exact crcByteParallel_eq acc b

/-! ### Sequences -/

@[simp] theorem crcByte_zero : crcByte 0#16 0#8 = 0#16 := by decide

theorem crc16_append (s t : List Byte) : crc16 (s ++ t) = t.foldl crcByte (crc16 s) := List.foldl_append

/-- The empty accumulator does not see zero bytes. -/
theorem crc16_replicate_zero (k : Nat) : crc16 (List.replicate k 0x00#8) = Config.crcInit := by
  induction k with
  | zero => rfl
  | succ k ih => rw [List.replicate_succ', crc16_append, ih]; exact crcByte_zero

/-- Settles O3: linearity bit by bit, and the two laws of the fold. -/
theorem crcAlgebraicLaws : Obligations.CrcAlgebraicLaws := by
  refine ⟨crcByte_xor, crc16_append, fun k s => ?_⟩
  rw [crc16_append, crc16_replicate_zero]
  rfl

/-- The bytes of the accumulator, high byte first, shift all of it out. -/
theorem crcByte_hiByte_loByte (c : Crc) : crcByte (crcByte c (hiByte c)) (loByte c) = 0#16 := by
  have low : loByte c = hiByte (c <<< 8) := by
    refine BitVec.eq_of_getLsbD_eq fun i hi => ?_
    simp only [hiByte, loByte, BitVec.getLsbD_extractLsb', BitVec.getLsbD_shiftLeft]
    simp [hi, show 8 + i < 16 by omega]
  rw [crcByte_hiByte, low, crcByte_hiByte, ← BitVec.shiftLeft_add, BitVec.shiftLeft_eq_zero (Nat.le_refl 16)]

/-- Two bytes bring the accumulator to 0 exactly when they are its value (R158). -/
theorem crcByte_crcByte_eq_zero_iff (c : Crc) (x y : Byte) : crcByte (crcByte c x) y = 0#16 ↔ c = x ++ y := by
  have value : crcByte (crcByte (x ++ y) x) y = 0#16 := by
    have high : hiByte (x ++ y) = x := BitVec.extractLsb'_append_eq_left
    have low : loByte (x ++ y) = y := BitVec.extractLsb'_append_eq_right
    simpa only [high, low] using crcByte_hiByte_loByte (x ++ y)
  constructor
  · intro zero
    exact crcByte_injective x (crcByte_injective y (zero.trans value.symm))
  · rintro rfl
    exact value

/-- Settles O4: the two bytes of the trailer meet an accumulator that holds the CRC of the sequence. -/
theorem crcResidueTest : Obligations.CrcResidueTest := by
  intro s x y
  rw [crc16_append, crc16_append]
  exact ⟨crcByte_hiByte_loByte (crc16 s), crcByte_crcByte_eq_zero_iff (crc16 s) x y⟩

/-- Settles O1: the update runs on the nine bytes. -/
theorem crcCheckValues : Obligations.CrcCheckValues := by
  refine ⟨?_, rfl⟩
  simp [crc16, crcByte_eq, crcBit, Config.crcInit, Config.crcPoly]

/-! ### The host CRC unit -/

/-- A write to CRC_ACC, in one step (R160). -/
theorem step_crcSeed {s : State} {v : Word} {rest : List Event} (scheduled : s.inputs = .write ⟨0x020#10, v⟩ :: rest) :
    step s = .next { s with crcAcc := v.extractLsb' 0 16, inputs := rest, reply := some ⟨false, none⟩ } :=
  step_exec scheduled (decode_crc v).1

/-- A write to CRC_DATA, in one step (R161). -/
theorem step_crcByte {s : State} {v : Word} {rest : List Event} (scheduled : s.inputs = .write ⟨0x024#10, v⟩ :: rest) :
    step s = .next
      { s with crcAcc := crcByte s.crcAcc (v.extractLsb' 0 8), inputs := rest, reply := some ⟨false, none⟩ } :=
  step_exec scheduled (decode_crc v).2

/-- A read of CRC_ACC, in one step (R162). -/
theorem step_readCrc {s : State} {rest : List Event} (scheduled : s.inputs = .read 0x020#10 :: rest) :
    step s = .next { s with inputs := rest, reply := some ⟨false, some (0#16 ++ s.crcAcc)⟩ } := by
  have answers := answersRead_readValue (r := .crcAcc) rfl scheduled
  rwa [show s.readValue .crcAcc = 0#16 ++ s.crcAcc from zeroExtend_eq_append 16 s.crcAcc] at answers

/-- Settles O18: the step, and the example of R160. -/
theorem crcSeedWritesTheAccumulator : Obligations.CrcSeedWritesTheAccumulator := by
  intro s v
  exact ⟨rfl, fun rest scheduled => ⟨⟨false, none⟩, rfl, step_crcSeed scheduled⟩, by decide⟩

/-- Settles O19: the step, and the examples of R161. -/
theorem crcByteAdvancesTheAccumulator : Obligations.CrcByteAdvancesTheAccumulator := by
  intro s v
  exact ⟨rfl, fun rest scheduled => ⟨⟨false, none⟩, rfl, step_crcByte scheduled⟩, crcByte_zero, by decide⟩

theorem run_succ {s t : State} (n : Nat) (first : step s = .next t) :
    Sys2Proof.core.run (n + 1) s = Sys2Proof.core.run n t := by
  have stepped : Sys2Proof.core.step s = .next t := first
  simp only [Host.Core.run, stepped]

/-- The bytes fed one by one and then the read: the fold of the update, whatever the upper bits of the words. -/
theorem run_crcBytes_read (bytes : List Byte) (hi : BitVec 24) (rest : List Event) (s : State)
    (scheduled : s.inputs = bytes.map (fun b => Event.write ⟨0x024#10, hi ++ b⟩) ++ .read 0x020#10 :: rest) :
    Sys2Proof.core.run (bytes.length + 1) s = .next
      { s with
        crcAcc := bytes.foldl crcByte s.crcAcc
        reply := some ⟨false, some (0#16 ++ bytes.foldl crcByte s.crcAcc)⟩
        inputs := rest } := by
  induction bytes generalizing s with
  | nil => exact run_succ 0 (step_readCrc scheduled)
  | cons b bytes ih =>
    have fed : (hi ++ b).extractLsb' 0 8 = b := BitVec.extractLsb'_append_eq_right
    have first := step_crcByte scheduled
    rw [fed] at first
    rw [List.length_cons, run_succ _ first, ih _ rfl]
    rfl

/-- Settles O20: after the seed the accumulator is CRC_INIT, and the bytes fold over it. -/
theorem hostCrcUnitComputesTheCrc : Obligations.HostCrcUnitComputesTheCrc := by
  refine ⟨fun s rest scheduled => step_readCrc scheduled, fun s bytes hi rest scheduled => ?_⟩
  rw [run_succ _ (step_crcSeed scheduled), run_crcBytes_read bytes hi rest _ rfl]
  rfl

end Sys2Proof.Machine
end

section
/-! SUPPORT. The decoder: which frames it accepts, what it gives back of a built frame, and the single-bit errors that it
finds. -/

namespace Sys2Proof.Machine

/-! ### What the decoder accepts -/

/-- The decoder tests the CRC of a frame and nothing else of it (R193). -/
theorem parse_isSome_iff (hdr body : List Byte) :
    (parse hdr body).isSome = true ↔ crc16 (coveredBytes hdr body) = receivedCrc hdr body := by
  by_cases crc : crc16 (coveredBytes hdr body) = receivedCrc hdr body <;> simp [parse, crc]

/-- What an accepted frame shows of its bytes (R194). -/
theorem parse_fields {hdr body : List Byte} {f : Frame} (parsed : parse hdr body = some f) :
    f.length = hdr.getD 2 0#8 ∧ f.type = body.getD 0 0#8 ∧
      f.payload = (body.take ((hdr.getD 2 0#8).toNat - 2)).drop 1 ∧ f.raw = hdr ++ body := by
  unfold parse at parsed
  split at parsed
  · cases parsed
    exact ⟨rfl, rfl, rfl, rfl⟩
  · cases parsed

/-- The covered bytes and the received CRC are the declared length and the whole body. -/
theorem coveredBytes_append_crc {hdr body : List Byte} {n : Nat} (length : body.length = n + 2)
    (declared : (hdr.getD 2 0#8).toNat = n + 2) :
    coveredBytes hdr body ++ [body.getD n 0#8, body.getD (n + 1) 0#8] = hdr.getD 2 0#8 :: body := by
  have crc : body.drop n = [body.getD n 0#8, body.getD (n + 1) 0#8] := by
    rw [List.drop_eq_getElem_cons (by omega), List.drop_eq_getElem_cons (by omega), List.drop_eq_nil_of_le (by omega),
      List.getD_eq_getElem _ _ (by omega), List.getD_eq_getElem _ _ (by omega)]
  rw [coveredBytes, declared, Nat.add_sub_cancel, List.cons_append, ← crc, List.take_append_drop]

/-- A delimited frame is accepted exactly when its bytes from the declared length on leave no residue (R158, R193). -/
theorem parse_isSome_iff_residue {hdr body : List Byte} (length : body.length = (hdr.getD 2 0#8).toNat)
    (crc : 2 ≤ body.length) : (parse hdr body).isSome = true ↔ crc16 (hdr.getD 2 0#8 :: body) = 0#16 := by
  obtain ⟨n, declared⟩ : ∃ n, (hdr.getD 2 0#8).toNat = n + 2 := ⟨body.length - 2, by omega⟩
  rw [parse_isSome_iff, ← coveredBytes_append_crc (length.trans declared) declared, (crcResidueTest _ _ _).2,
    receivedCrc, declared]
  rfl

/-- Settles O10: the CRC covers neither marker, and no field but the markers themselves shows them. -/
theorem markersAreNotChecked : Obligations.MarkersAreNotChecked := by
  intro hdr body x y _
  have same : (parse hdr body).isSome = (parse [x, y, hdr.getD 2 0#8] body).isSome := by
    rw [Bool.eq_iff_iff, parse_isSome_iff, parse_isSome_iff]
    rfl
  refine ⟨same, fun f parsed => ?_⟩
  obtain ⟨f', parsed'⟩ := Option.isSome_iff_exists.mp (same.symm.trans (Option.isSome_of_eq_some parsed))
  obtain ⟨-, type, payload, -⟩ := parse_fields parsed
  obtain ⟨-, type', payload', raw'⟩ := parse_fields parsed'
  exact ⟨f', parsed', type'.trans type.symm, payload'.trans payload.symm, raw'⟩

/-! ### Built frames -/

theorem toNat_declared {k : CommandClass} {n : Nat} (legal : payloadLegal k n = true) :
    (BitVec.ofNat 8 (3 + n)).toNat = 3 + n := by
  have fits := payloadLegal_le legal
  exact Nat.mod_eq_of_lt (by omega)

/-- Settles O6: the classes by their legal lengths. -/
theorem declaredLengthsOfLegalPayloads : Obligations.DeclaredLengthsOfLegalPayloads := by
  refine ⟨fun n legal => ?_, rfl, rfl, fun cls n legal => ?_⟩
  · obtain ⟨lo, hi⟩ := (payloadLegal_sendVld n).mp legal
    exact ⟨rfl, by omega, by omega⟩
  · rw [declaredLength_of_legal legal]
    exact ⟨rfl, toNat_declared legal⟩

/-- The body of an encoded frame: the code, the payload and the CRC (R183, R191). -/
def encodedBody (c : Codes) (code : Byte) (p : List Byte) : List Byte :=
  code :: (p ++ crcTrailer (frameBody c code p))

@[simp] theorem encodedBody_length (c : Codes) (code : Byte) (p : List Byte) :
    (encodedBody c code p).length = p.length + 3 := by
  simp [encodedBody, crcTrailer]

/-- An encoded frame is a header with the declared length, and its body. -/
theorem encodeFrame_of_legal {c : Codes} {code : Byte} {p : List Byte}
    (legal : payloadLegal (classify c code) p.length = true) :
    encodeFrame c code p = [0xFA#8, 0xF5#8, BitVec.ofNat 8 (3 + p.length)] ++ encodedBody c code p := by
  rw [← declaredLength_of_legal legal]
  rfl

/-- The bytes of an encoded frame from its declared length on leave no residue (R158). -/
theorem encodedBody_residue {c : Codes} {code : Byte} {p : List Byte}
    (legal : payloadLegal (classify c code) p.length = true) :
    crc16 (BitVec.ofNat 8 (3 + p.length) :: encodedBody c code p) = 0#16 := by
  rw [← declaredLength_of_legal legal]
  exact (crcResidueTest (frameBody c code p) 0#8 0#8).1

/-- A body of the built length behind the built declared length, as the decoder takes it. -/
theorem parse_built_isSome_iff {c : Codes} {code : Byte} {p body : List Byte}
    (legal : payloadLegal (classify c code) p.length = true) (length : body.length = p.length + 3) :
    (parse [0xFA#8, 0xF5#8, BitVec.ofNat 8 (3 + p.length)] body).isSome = true ↔
      crc16 (BitVec.ofNat 8 (3 + p.length) :: body) = 0#16 :=
  parse_isSome_iff_residue (by rw [length, Nat.add_comm]; exact (toNat_declared legal).symm) (by omega)

/-- Settles O8: the built frame leaves no residue, and the decoder reads its fields off the same offsets. -/
theorem codecRoundTrip : Obligations.CodecRoundTrip := by
  intro c code p legal
  obtain ⟨f, parsed⟩ := Option.isSome_iff_exists.mp
    ((parse_built_isSome_iff legal (encodedBody_length c code p)).mpr (encodedBody_residue legal))
  obtain ⟨length, type, payload, raw⟩ := parse_fields parsed
  rw [encodeFrame_of_legal legal]
  refine ⟨f, parsed, type, ?_, (congrArg BitVec.toNat length).trans (toNat_declared legal), raw⟩
  rw [payload, List.getD_cons_succ, List.getD_cons_succ, List.getD_cons_zero, toNat_declared legal]
  simp [encodedBody, show 3 + p.length - 2 = p.length + 1 by omega]

/-! ### Single-bit errors -/

/-- One byte is seen in the accumulator. -/
theorem crcByte_byte_injective (acc : Crc) : Function.Injective (crcByte acc) := by
  intro b b' same
  have difference : crcByte 0#16 (b ^^^ b') = 0#16 := by
    have linear := crcByte_xor acc acc b b'
    rwa [BitVec.xor_self, same, BitVec.xor_self] at linear
  have zeros : (0#16 : Crc) = (b ^^^ b') ++ 0#8 :=
    (crcByte_crcByte_eq_zero_iff 0#16 (b ^^^ b') 0#8).mp (by rw [difference, crcByte_zero])
  have high : hiByte 0#16 = b ^^^ b' := zeros ▸ BitVec.extractLsb'_append_eq_left
  exact BitVec.xor_eq_zero_iff.mp (high.symm.trans (by decide))

theorem foldl_crcByte_injective (s : List Byte) : Function.Injective (s.foldl crcByte ·) := by
  induction s with
  | nil => exact Function.injective_id
  | cons b s ih => exact ih.comp (crcByte_injective b)

/-- A change of one byte is seen in the CRC (R159). -/
theorem foldl_crcByte_modify_ne {s : List Byte} {j : Nat} {e : Byte} (acc : Crc) (changed : e ≠ 0#8)
    (inside : j < s.length) : (s.modify j (· ^^^ e)).foldl crcByte acc ≠ s.foldl crcByte acc := by
  induction s generalizing j acc with
  | nil => simp at inside
  | cons b s ih =>
    cases j with
    | zero =>
      intro same
      have byte : b ^^^ e = b := crcByte_byte_injective acc (foldl_crcByte_injective s same)
      exact changed (BitVec.xor_right_inj b |>.mp (byte.trans BitVec.xor_zero.symm))
    | succ j => exact ih (crcByte acc b) (Nat.lt_of_succ_lt_succ inside)

theorem one_shiftLeft_ne_zero {k : Nat} (bit : k < 8) : 1#8 <<< k ≠ 0#8 := by
  revert k
  decide

theorem crc16_cons (b : Byte) (s : List Byte) : crc16 (b :: s) = s.foldl crcByte (crcByte Config.crcInit b) := rfl

/-- A change of one byte of a built body leaves a residue. -/
theorem encodedBody_modify_residue {c : Codes} {code e : Byte} {p : List Byte} {j : Nat}
    (legal : payloadLegal (classify c code) p.length = true) (changed : e ≠ 0#8) (inside : j < p.length + 3) :
    crc16 (BitVec.ofNat 8 (3 + p.length) :: (encodedBody c code p).modify j (· ^^^ e)) ≠ 0#16 := by
  have residue := encodedBody_residue legal
  rw [crc16_cons] at residue ⊢
  rw [← residue]
  exact foldl_crcByte_modify_ne _ changed (by rw [encodedBody_length]; exact inside)

/-- A change behind the header of an encoded frame is a change of its body. -/
theorem encodeFrame_modify {c : Codes} {code : Byte} {p : List Byte} (j : Nat) (change : Byte → Byte)
    (legal : payloadLegal (classify c code) p.length = true) :
    (encodeFrame c code p).modify (j + 3) change =
      [0xFA#8, 0xF5#8, BitVec.ofNat 8 (3 + p.length)] ++ (encodedBody c code p).modify j change := by
  rw [encodeFrame_of_legal legal]
  rfl

/-- Settles O9: the flipped byte lies behind the header, and the changed body leaves a residue. -/
theorem singleBitErrorsAreDetected : Obligations.SingleBitErrorsAreDetected := by
  intro c code p i k legal behind inside bit
  obtain ⟨j, rfl⟩ : ∃ j, i = j + 3 := ⟨i - 3, by omega⟩
  rw [encodeFrame_modify j _ legal]
  refine Option.not_isSome_iff_eq_none.mp fun accepted => ?_
  have residue := (parse_built_isSome_iff (body := (encodedBody c code p).modify j (· ^^^ (1#8 <<< k))) legal
    (by rw [List.length_modify, encodedBody_length])).mp accepted
  exact encodedBody_modify_residue legal (one_shiftLeft_ne_zero bit) (by omega) residue

end Sys2Proof.Machine
end

section
/-! SUPPORT. Receives: the takes of a read stage in closed form, the run that collects a frame, and how SEND_ACK, POLL and
WAIT_DL go on after a receive without a frame. -/

namespace Sys2Proof.Machine

/-! ### Takes -/

/-- Takes move bytes, as many as there are, from the channel to the staging buffer (R231). -/
theorem State.takeBytes_eq (s : State) (n : Nat) :
    s.takeBytes n =
      { s with
        chanRx := s.chanRx.drop n
        stg := (s.takeBytes n).stg
        taken := s.taken + BitVec.ofNat 7 (min n s.chanRx.length)
        need := s.need - BitVec.ofNat 7 (min n s.chanRx.length) } := by
  induction n generalizing s with
  | zero => simp [State.takeBytes]
  | succ n ih =>
    rcases s.takeByte_cases with ⟨empty, took⟩ | ⟨b, rest, holds, took⟩
    · rw [State.takeBytes, took, ih]
      simp [empty]
    · rw [State.takeBytes, took, ih]
      simp only [State.stageByte, holds, List.drop_succ_cons, List.length_cons, Nat.add_min_add_right]
      rw [Nat.add_comm _ 1, BitVec.ofNat_add, BitVec.add_assoc, BitVec.sub_sub]

/-- The bytes taken are staged behind the ones before them. -/
theorem State.takeBytes_stg (s : State) (bytes rest : List Byte) (holds : s.chanRx = bytes ++ rest)
    (room : s.taken.toNat + bytes.length ≤ 64) :
    (s.takeBytes bytes.length).stg = s.stg.writeAll s.taken.toNat bytes := by
  induction bytes generalizing s with
  | nil => rfl
  | cons b bytes ih =>
    simp only [List.length_cons] at room
    rcases s.takeByte_cases with ⟨empty, -⟩ | ⟨c, others, first, took⟩
    · simp [holds] at empty
    · obtain ⟨rfl, rfl⟩ : b = c ∧ bytes ++ rest = others := by simpa [holds] using first
      have taken := s.toNat_stageByte_taken b (bytes ++ rest) (by omega)
      rw [List.length_cons, State.takeBytes, took, ih _ rfl (by omega), taken]
      rfl

/-- Takes of bytes that the channel holds and the staging buffer has room for (R230). -/
theorem State.takeBytes_all (s : State) (bytes rest : List Byte) (holds : s.chanRx = bytes ++ rest)
    (room : s.taken.toNat + bytes.length ≤ 64) :
    s.takeBytes bytes.length =
      { s with
        chanRx := rest, stg := s.stg.writeAll s.taken.toNat bytes
        taken := s.taken + BitVec.ofNat 7 bytes.length, need := s.need - BitVec.ofNat 7 bytes.length } := by
  rw [s.takeBytes_eq, s.takeBytes_stg bytes rest holds room]
  simp [holds]

/-- A core step of a read stage that needs `n + 1` bytes takes one, and with the last one the stage is complete (R230). -/
theorem step_take {s : State} {n : Nat} (quiet : s.inputs = []) (reads : s.phase.receiving = true)
    (need : s.need.toNat = n + 1) (bytes : s.chanRx ≠ []) :
    s.takeByte.need.toNat = n ∧
      step s = .next (if n = 0 then s.takeByte.stageComplete else s.takeByte) := by
  have needs : s.need ≠ 0#7 := fun zero => by simp [zero] at need
  rcases s.takeByte_cases with ⟨empty, -⟩ | ⟨b, rest, -, took⟩
  · exact absurd empty bytes
  have left : s.takeByte.need.toNat = n := by rw [took, s.toNat_stageByte_need b rest needs, need]; rfl
  refine ⟨left, ?_⟩
  rw [step_core quiet]
  rcases s.coreStep_cases with ⟨-, takes⟩ | ⟨flush, -⟩ | ⟨header, body, -⟩
  · rcases s.takeByte.stageTest_cases id with ⟨full, ends⟩ | ⟨more, goes⟩
    · have last : n = 0 := by rw [← left, full]; rfl
      rw [takes, State.stageTest, if_neg needs, ends, if_pos last]
    · have some : n ≠ 0 := fun zero => more (BitVec.eq_of_toNat_eq (left.trans zero))
      rw [takes, State.stageTest, if_neg needs, goes, if_neg some, id]
  · simp [flush, Phase.receiving] at reads
  · simp [Phase.receiving_iff, header, body] at reads

/-- With nothing scheduled a read stage takes the bytes that it needs, one a step, and is complete (R230). -/
theorem run_takes {s : State} (n : Nat) (quiet : s.inputs = []) (reads : s.phase.receiving = true)
    (need : s.need.toNat = n + 1) (bytes : n + 1 ≤ s.chanRx.length) :
    Sys2Proof.core.run (n + 1) s = .next (s.takeBytes (n + 1)).stageComplete := by
  induction n generalizing s with
  | zero =>
    obtain ⟨-, first⟩ := step_take quiet reads need (List.ne_nil_of_length_pos bytes)
    rw [run_succ 0 first]
    rfl
  | succ n ih =>
    obtain ⟨left, first⟩ := step_take quiet reads need (List.ne_nil_of_length_pos (by omega))
    have took : s.takeByte = s.takeBytes 1 := rfl
    rw [run_succ (n + 1) first, if_neg n.succ_ne_zero]
    refine ih ?_ ?_ left ?_
    · rw [took, State.takeBytes_eq]; exact quiet
    · rw [took, State.takeBytes_eq]; exact reads
    · rw [took, State.takeBytes_chanRx, List.length_drop]; omega

theorem run_add {s t : State} {m : Nat} (n : Nat) (first : Sys2Proof.core.run m s = .next t) :
    Sys2Proof.core.run (m + n) s = Sys2Proof.core.run n t := by
  induction m generalizing s with
  | zero =>
    obtain rfl : s = t := Host.Outcome.next.inj first
    rw [Nat.zero_add]
  | succ m ih =>
    obtain ⟨u, stepped⟩ := step_next s
    rw [run_succ m stepped] at first
    rw [Nat.add_right_comm, run_succ _ stepped, ih first]

/-! ### The run of a receive -/

/-- `s` stands at the begin of a receive: the header stage with nothing taken and nothing scheduled (R234). -/
structure State.AtHeader (s : State) : Prop where
  phase : s.phase = .rxHdr
  taken : s.taken = 0#7
  need : s.need = 3#7
  inputs : s.inputs = []

/-- `s` after its header stage: `hdr` staged, and `more` left in the channel. -/
def State.headed (s : State) (hdr more : List Byte) : State :=
  { s with chanRx := more, stg := s.stg.writeAll 0 hdr, taken := 3#7, need := 0#7 }

/-- `s` at the begin of its body stage of `n` bytes: `hdr` staged, and `more` left in the channel (R236). -/
def State.atBody (s : State) (hdr more : List Byte) (n : Nat) : State :=
  { s with
    phase := .rxBody, timer := s.window, chanRx := more, stg := s.stg.writeAll 0 hdr
    taken := 3#7, need := BitVec.ofNat 7 n }

/-- `s` after its body stage: `hdr` and `body` staged, and `rest` left in the channel. -/
def State.collected (s : State) (hdr body rest : List Byte) : State :=
  { s with
    phase := .rxBody, timer := s.window, chanRx := rest, stg := s.stg.writeAll 0 (hdr ++ body)
    taken := BitVec.ofNat 7 (hdr ++ body).length, need := 0#7 }

theorem Memory.writeAll_append (m : Memory) (k : Nat) (front back : List Byte) :
    m.writeAll k (front ++ back) = (m.writeAll k front).writeAll (k + front.length) back := by
  induction front generalizing m k with
  | nil => rfl
  | cons b front ih => rw [List.cons_append, Memory.writeAll, ih, List.length_cons, Nat.add_right_comm]; rfl

/-- A byte of what a receive has staged. -/
theorem State.byteAt_staged {s : State} {m : Memory} {staged : List Byte} (holds : s.stg = m.writeAll 0 staged)
    (fits : staged.length ≤ 64) {i : Nat} (inside : i < staged.length) : s.byteAt .stg i = staged.getD i 0#8 := by
  rw [State.byteAt, State.buffer, holds, Memory.read_writeAll _ _ _ _ (by omega)]
  simp [inside]

/-- Consecutive bytes of what a receive has staged. -/
theorem State.bytes_staged {s : State} {m : Memory} {staged : List Byte} (holds : s.stg = m.writeAll 0 staged)
    (fits : staged.length ≤ 64) {lo n : Nat} (inside : lo + n ≤ staged.length) :
    s.bytes .stg lo n = (staged.drop lo).take n := by
  refine List.ext_getElem (by simp; omega) fun i below _ => ?_
  rw [State.bytes_length] at below
  rw [State.getElem_bytes, State.byteAt_staged holds fits (by omega), List.getD_eq_getElem _ _ (by omega)]
  simp

theorem State.headed_declared (s : State) {hdr : List Byte} (more : List Byte) (three : hdr.length = 3) :
    (s.headed hdr more).declared = hdr.getD 2 0#8 :=
  State.byteAt_staged rfl (by omega) (by omega)

/-- The bounds of a well delimited frame (R127, R192). -/
theorem delimited.lengths {hdr body : List Byte} (frame : delimited hdr body) :
    hdr.length = 3 ∧ 3 ≤ body.length ∧ body.length ≤ 61 := by
  obtain ⟨header, legal, length⟩ := frame
  rw [length]
  exact ⟨header, (lengthLegal_iff _).mp legal⟩

/-- The check reads the header, the body and the type byte of the frame that was taken (R191). -/
theorem State.collected_reads (s : State) {hdr body : List Byte} (rest : List Byte) (frame : delimited hdr body) :
    (s.collected hdr body rest).header = hdr ∧ (s.collected hdr body rest).body = body ∧
      (s.collected hdr body rest).typeByte = body.getD 0 0#8 := by
  obtain ⟨header, some, bound⟩ := frame.lengths
  obtain ⟨-, -, count⟩ := frame
  have staged : (s.collected hdr body rest).stg = s.stg.writeAll 0 (hdr ++ body) := rfl
  have length : (hdr ++ body).length = 3 + body.length := by rw [List.length_append, header]
  have declared : (s.collected hdr body rest).declared.toNat = body.length := by
    rw [State.declared, State.byteAt_staged staged (by omega) (by omega), List.getD_append _ _ _ _ (by omega)]
    exact count.symm
  refine ⟨?_, ?_, ?_⟩
  · rw [State.header, State.bytes_staged staged (by omega) (by omega), List.drop_zero, List.take_left' header]
  · rw [State.body, declared, State.bytes_staged staged (by omega) (by omega), List.drop_left' header, List.take_length]
  · rw [State.typeByte, State.byteAt_staged staged (by omega) (by omega),
      List.getD_append_right _ _ _ _ (by omega), header]

/-- The check of a collected frame goes by what the decoder answers (R193, R234). -/
theorem State.collected_checkFrame (s : State) {hdr body : List Byte} (rest : List Byte) (frame : delimited hdr body) :
    (parse hdr body = none ∧ (s.collected hdr body rest).checkFrame =
      ((s.collected hdr body rest).enter .rxCheck).receiveFailed .crcMismatch) ∨
    (∃ f, parse hdr body = some f ∧ (s.collected hdr body rest).typeByte = f.type ∧
      (s.collected hdr body rest).checkFrame = ((s.collected hdr body rest).enter .rxCheck).receiveFrame) := by
  obtain ⟨header, bytes, type⟩ := s.collected_reads rest frame
  rcases (s.collected hdr body rest).checkFrame_cases with ⟨bad, failed⟩ | ⟨f, good, checked⟩
  · rw [header, bytes] at bad
    exact .inl ⟨bad, failed⟩
  · rw [header, bytes] at good
    obtain ⟨-, shown, -⟩ := parse_fields good
    exact .inr ⟨f, good, type.trans shown.symm, checked⟩

section Receive

variable {s : State} {hdr body rest : List Byte}

/-- The header stage takes three bytes (R191, R230). -/
theorem State.AtHeader.run_header (h : s.AtHeader) (three : hdr.length = 3) (holds : s.chanRx = hdr ++ rest) :
    Sys2Proof.core.run 3 s = .next (s.headed hdr rest).stageComplete := by
  have taken : s.takeBytes hdr.length = s.headed hdr rest := by
    rw [s.takeBytes_all hdr rest holds (by simp [h.taken, three]), three, h.need, h.taken]
    rfl
  rw [run_takes 2 h.inputs (by simp [h.phase, Phase.receiving]) (by rw [h.need]; rfl) (by simp [holds, three]),
    ← taken, three]

/-- A declared length outside 3 .. 61 ends the receive (R192). -/
theorem State.AtHeader.run_badLength (h : s.AtHeader) (three : hdr.length = 3)
    (illegal : lengthLegal (hdr.getD 2 0#8) = false) (holds : s.chanRx = hdr ++ rest) :
    Sys2Proof.core.run 3 s = .next ((s.headed hdr rest).receiveFailed .badLength) := by
  rw [h.run_header three holds]
  rcases (s.headed hdr rest).stageComplete_cases with ⟨-, legal, -⟩ | ⟨-, -, ends⟩ | ⟨body, -⟩ | ⟨header, -⟩
  · rw [s.headed_declared rest three, illegal] at legal
    cases legal
  · rw [ends]
  · exact absurd (h.phase.symm.trans body) nofun
  · exact absurd h.phase header

/-- A legal declared length leads to the body stage (R234, R236). -/
theorem State.AtHeader.run_toBody (h : s.AtHeader) (window : s.window ≠ 0#24) (frame : delimited hdr body)
    (holds : s.chanRx = hdr ++ rest) :
    Sys2Proof.core.run hdr.length s = .next (s.atBody hdr rest body.length) := by
  obtain ⟨three, legal, length⟩ := frame
  have declared := s.headed_declared rest three
  rw [three, h.run_header three holds]
  rcases (s.headed hdr rest).stageComplete_cases with ⟨-, -, begins⟩ | ⟨-, illegal, -⟩ | ⟨other, -⟩ | ⟨other, -⟩
  · rw [begins]
    rcases (s.headed hdr rest).beginBody_cases with ⟨zero, -⟩ | ⟨-, starts⟩
    · exact absurd zero window
    · rw [starts, declared, length, State.atBody, BitVec.ofNat_toNat]
      rfl
  · rw [declared, legal] at illegal
    cases illegal
  · exact absurd (h.phase.symm.trans other) nofun
  · exact absurd h.phase other

theorem State.takeBytes_atBody (s : State) (rest : List Byte) (frame : delimited hdr body) :
    (s.atBody hdr (body ++ rest) body.length).takeBytes body.length = s.collected hdr body rest := by
  obtain ⟨three, -, bound⟩ := frame.lengths
  rw [State.takeBytes_all _ body rest rfl (by simp [State.atBody]; omega)]
  simp [State.atBody, State.collected, Memory.writeAll_append, three, BitVec.ofNat_add]

/-- A well delimited frame is taken whole and nothing behind it, and then checked (R234). -/
theorem State.AtHeader.run_receive (h : s.AtHeader) (window : s.window ≠ 0#24) (frame : delimited hdr body)
    (holds : s.chanRx = hdr ++ body ++ rest) :
    Sys2Proof.core.run (hdr.length + body.length) s = .next (s.collected hdr body rest).checkFrame := by
  obtain ⟨-, some, bound⟩ := frame.lengths
  obtain ⟨n, length⟩ : ∃ n, body.length = n + 1 := ⟨body.length - 1, by omega⟩
  have need : (s.atBody hdr (body ++ rest) body.length).need.toNat = n + 1 := by simp [State.atBody]; omega
  have bytes : n + 1 ≤ (s.atBody hdr (body ++ rest) body.length).chanRx.length := by simp [State.atBody]; omega
  rw [run_add _ (h.run_toBody window frame (holds.trans (List.append_assoc ..)))]
  calc Sys2Proof.core.run body.length (s.atBody hdr (body ++ rest) body.length)
    _ = .next ((s.atBody hdr (body ++ rest) body.length).takeBytes body.length).stageComplete := by
      have run := run_takes n (s := s.atBody hdr (body ++ rest) body.length) h.inputs rfl need bytes
      rwa [← length] at run
    _ = .next (s.collected hdr body rest).checkFrame := by
      rw [s.takeBytes_atBody rest frame]
      rfl

/-! ### The last tick of a read stage -/

/-- `s` after the last tick of a stage that it could not fill: all the bytes of the channel taken, staged as `m`. -/
def State.cutShort (s : State) (events : List Event) (m : Memory) : State :=
  { s with
    timer := 0#24, inputs := events, chanRx := [], stg := m
    taken := s.taken + BitVec.ofNat 7 s.chanRx.length, need := s.need - BitVec.ofNat 7 s.chanRx.length }

/-- The last tick of a stage over too few bytes takes them and ends the receive (R231, R232). -/
theorem step_lastTick {events : List Event} (reads : s.phase.receiving = true) (last : s.timer = 1#24)
    (short : s.chanRx.length < s.need.toNat) (scheduled : s.inputs = .tick :: events) :
    ∃ m : Memory, step s = .next ((s.cutShort events m).receiveFailed .truncated) := by
  have more : s.need - BitVec.ofNat 7 s.chanRx.length ≠ 0#7 := by bv_omega
  refine ⟨((s.taking events).takeBytes s.need.toNat).stg, ?_⟩
  have ticked : (s.taking events).onTick = ((s.taking events).takeBytes s.need.toNat).stageTest
      fun t => t.countDown fun t => t.receiveFailed .truncated := by
    rcases (Phase.receiving_iff _).mp reads with phase | phase <;> simp [State.onTick, phase]
  have took := (s.taking events).takeBytes_eq s.need.toNat
  simp only [State.taking_chanRx, State.taking_need, State.taking_taken, List.drop_eq_nil_of_le short.le,
    Nat.min_eq_right short.le] at took
  rw [step_perform scheduled rfl]
  change Host.Outcome.next (s.taking events).onTick = _
  rw [ticked, took, State.stageTest, if_neg more, State.countDown, if_pos]
  · simp [State.tickDown, State.taking, State.cutShort, last]
  · simp [last]

end Receive

/-! ### What a receive leaves alone -/

/-- From `s` to `u` a receive of the running operation has moved nothing but its stage, timer, phase and channel. -/
structure State.OnlyReceives (s u : State) : Prop where
  frames : s.keepsFrames u
  op : u.op = s.op
  result : u.result = s.result
  done : u.done = s.done
  wake : u.wake = s.wake
  attempt : u.attempt = s.attempt
  pollsLeft : u.pollsLeft = s.pollsLeft
  polls : u.polls = s.polls

theorem State.keepsFrames.trans {s t u : State} (first : s.keepsFrames t) (second : t.keepsFrames u) :
    s.keepsFrames u := by
  simp only [State.keepsFrames, State.keeps] at first second ⊢
  simp only [second, first, and_self]

/-- The three groups of fields hold all that a receive leaves unchanged. -/
theorem State.keepsFrames_of_sides {s t : State} (host : t.hostSide = s.hostSide) (op : t.opSide = s.opSide)
    (slots : t.slotSide = s.slotSide) : s.keepsFrames t := by
  simp only [State.hostSide_ext, State.opSide_ext, State.slotSide_ext] at host op slots
  simp [State.keepsFrames, State.keeps, host, op, slots]

theorem State.onlyReceives_collected (s : State) (hdr body rest : List Byte) :
    s.OnlyReceives ((s.collected hdr body rest).enter .rxCheck) :=
  ⟨by simp [State.keepsFrames, State.keeps, State.collected], rfl, rfl, rfl, rfl, rfl, rfl, rfl⟩

theorem State.onlyReceives_headed (s : State) (hdr rest : List Byte) : s.OnlyReceives (s.headed hdr rest) :=
  ⟨by simp [State.keepsFrames, State.keeps, State.headed], rfl, rfl, rfl, rfl, rfl, rfl, rfl⟩

theorem State.onlyReceives_cutShort (s : State) (events : List Event) (m : Memory) :
    s.OnlyReceives (s.cutShort events m) :=
  ⟨by simp [State.keepsFrames, State.keeps, State.cutShort], rfl, rfl, rfl, rfl, rfl, rfl, rfl⟩

/-! ### The end of a receive without a frame -/

section Fails

variable {s u : State}

theorem State.keepsFrames_receiveFailed (u : State) (o : RxOutcome) : u.keepsFrames (u.receiveFailed o) :=
  State.keepsFrames_of_sides (by simp) (by simp) (by simp)

theorem State.inputs_receiveFailed (u : State) (o : RxOutcome) : (u.receiveFailed o).inputs = u.inputs :=
  congrArg HostSide.inputs (u.receiveFailed_hostSide o)

/-- What a failed attempt and the success test read of the host's settings. -/
theorem State.OnlyReceives.configured (h : s.OnlyReceives u) :
    u.retryDelay = s.retryDelay ∧ u.maxAttempts = s.maxAttempts ∧ u.params = s.params := by
  obtain ⟨⟨-, -, -, delay, attempts, -, -, -, -, params, -⟩, -⟩ := h.frames
  exact ⟨delay, attempts, params⟩

/-- What a failed attempt leads to (R263, R265). -/
theorem State.OnlyReceives.attemptFails (h : s.OnlyReceives u) (op : s.op = .sendAck) :
    s.attemptFailsTo u.attemptFailed ∧ s.keepsFrames u.attemptFailed := by
  obtain ⟨delay, attempts, -⟩ := h.configured
  refine ⟨?_, h.frames.trans (State.keepsFrames_of_sides (by simp) (by simp) (by simp))⟩
  unfold State.attemptFailsTo
  rw [← h.result, ← h.done, ← h.wake, ← h.attempt, ← delay, ← attempts]
  rcases u.attemptFailed_cases with ⟨left, none, next⟩ | ⟨left, some, waits⟩ | ⟨last, ends⟩
  · rw [next]
    exact ⟨fun _ _ => by simp [State.retry, Config.settleTicks], fun _ some => absurd none some,
      fun last => absurd left (BitVec.not_lt.mpr last)⟩
  · rw [waits]
    exact ⟨fun _ none => absurd none some, fun _ _ => by simp,
      fun last => absurd left (BitVec.not_lt.mpr last)⟩
  · rw [ends]
    refine ⟨fun left => absurd left last, fun left => absurd left last, fun _ => ?_⟩
    simp [h.op, op, Op.byte]

/-- A failed attempt takes no byte and forgets no count. -/
theorem State.attemptFailed_stage (u : State) :
    u.attemptFailed.chanRx = u.chanRx ∧ u.attemptFailed.taken = u.taken := by
  rcases u.attemptFailed_cases with ⟨-, -, next⟩ | ⟨-, -, waits⟩ | ⟨-, ends⟩
  · simp [next, State.retry]
  · simp [waits]
  · simp [ends]

theorem State.OnlyReceives.setRx (h : s.OnlyReceives u) (o : RxOutcome) : s.OnlyReceives (u.setRx o) :=
  ⟨h.frames, h.op, h.result, h.done, h.wake, h.attempt, h.pollsLeft, h.polls⟩

/-- A receive of an attempt that ends without a frame fails the attempt (R264). -/
theorem State.OnlyReceives.receiveFailed_sendAck (h : s.OnlyReceives u) (op : s.op = .sendAck) (o : RxOutcome) :
    (u.receiveFailed o).chanRx = u.chanRx ∧ (u.receiveFailed o).taken = u.taken ∧ s.keepsFrames (u.receiveFailed o) ∧
      s.attemptFailsTo (u.receiveFailed o) := by
  have failed : u.receiveFailed o = (u.setRx o).attemptFailed := by rw [State.receiveFailed, h.op, op]
  obtain ⟨left, count⟩ := (u.setRx o).attemptFailed_stage
  obtain ⟨fails, keeps⟩ := (h.setRx o).attemptFails op
  rw [failed]
  exact ⟨left, count, keeps, fails⟩

theorem State.countPoll_eq_pollsAfter (u : State) : u.countPoll.polls = u.pollsAfter 1 := by
  rw [State.countPoll_polls, State.pollsAfter]
  split
  · next full => rw [full]; rfl
  · next more =>
    have below : u.polls.toNat ≠ 255 := fun full => more (BitVec.eq_of_toNat_eq full)
    rw [Nat.min_eq_left (by omega), BitVec.ofNat_add, BitVec.ofNat_toNat, BitVec.setWidth_eq]

/-- A receive of WAIT_DL that ends without a frame counts its poll and sleeps (R310, R313). -/
theorem State.OnlyReceives.receiveFailed_waitDl (h : s.OnlyReceives u) (op : s.op = .waitDl) (o : RxOutcome) :
    (u.receiveFailed o).chanRx = u.chanRx ∧ s.keepsFrames (u.receiveFailed o) ∧ s.pollFailsTo (u.receiveFailed o) := by
  have failed : u.receiveFailed o = (u.setRx o).pollAgainLater := by rw [State.receiveFailed, h.op, op]
  have counted : (u.setRx o).countPoll.polls = s.pollsAfter 1 := by
    rw [State.countPoll_eq_pollsAfter, State.pollsAfter, (h.setRx o).polls, State.pollsAfter]
  refine ⟨?_, h.frames.trans (u.keepsFrames_receiveFailed o), ?_⟩
  · simp [failed, State.pollAgainLater]
  · simp [State.pollFailsTo, failed, State.pollAgainLater, Config.pollSleepTicks, -State.countPoll_polls, counted,
      h.result, h.done, h.wake, h.pollsLeft]

end Fails

end Sys2Proof.Machine
end

section
/-! SUPPORT. How SEND_ACK, POLL and WAIT_DL end the receives that bring no frame for them. -/

namespace Sys2Proof.Machine

/-! ### SEND_ACK -/

section Attempt

variable {s u : State}

/-- The success test of an attempt over a received frame (R264, R267). -/
theorem State.OnlyReceives.receiveFrame_sendAck (h : s.OnlyReceives u) (op : s.op = .sendAck) :
    u.receiveFrame.chanRx = u.chanRx ∧ s.keepsFrames u.receiveFrame ∧
      (u.typeByte = s.params.codes.respAck →
        u.receiveFrame.result = ⟨.ok, false, s.params.codes.respAck, s.attempt, 0x03#8⟩ ∧ u.receiveFrame.done = true ∧
        u.receiveFrame.phase = .idle ∧ u.receiveFrame.wake = s.wake) ∧
      (u.typeByte ≠ s.params.codes.respAck → s.attemptFailsTo u.receiveFrame) := by
  have tests : u.receiveFrame = (u.setRx .frame).testAck := by rw [State.receiveFrame, h.op, op]
  obtain ⟨-, -, params⟩ := h.configured
  rw [tests, ← params]
  rcases (u.setRx .frame).testAck_cases with ⟨ack, ends⟩ | ⟨other, fails⟩
  · rw [ends]
    refine ⟨rfl, h.frames.trans (State.keepsFrames_of_sides rfl rfl rfl), fun _ => ⟨?_, rfl, rfl, h.wake⟩,
      fun other => absurd ack other⟩
    rw [State.complete_result, State.setRx_op, h.op, op, State.setRx_attempt, h.attempt]
    rfl
  · obtain ⟨failed, keeps⟩ := (h.setRx .frame).attemptFails op
    rw [fails]
    exact ⟨(u.setRx .frame).attemptFailed_stage.1, keeps, fun ack => absurd ack other, fun _ => failed⟩

/-- With a zero window the end of the transmit is the end of the attempt, with the line high (R225, R233). -/
theorem step_endTransmit_zeroWindow {events : List Event} (phase : s.phase = .txSettle2) (op : s.op = .sendAck)
    (last : s.timer = 1#24) (window : s.ackTimeout = 0#24) (scheduled : s.inputs = .tick :: events) :
    step s = .next (State.receiveFailed ((s.taking events).tickDown.setWake true).clearStage .truncated) := by
  rw [step_perform scheduled rfl]
  simp [State.perform, State.onTick, State.countDown, State.endTransmit, State.beginReceive, phase, op, last, window]

theorem State.onlyReceives_transmitted (s : State) (events : List Event) :
    State.OnlyReceives { s with wake := true } ((s.taking events).tickDown.setWake true).clearStage := by
  constructor <;> simp [State.keepsFrames, State.keeps]

end Attempt

/-- Settles O29: every receive that brings no RESP_ACK fails its attempt. -/
theorem attemptEndsByItsFrame : Obligations.AttemptEndsByItsFrame := by
  refine ⟨?frame, ?badLength, ?lastTick, ?zeroWindow⟩
  case frame =>
    intro s hdr body rest phase op taken need window quiet frame holds
    have run := State.AtHeader.run_receive ⟨phase, taken, need, quiet⟩ (by simpa only [State.window, op] using window)
      frame holds
    have only := s.onlyReceives_collected hdr body rest
    refine ⟨_, run, ?_⟩
    rcases s.collected_checkFrame rest frame with ⟨bad, checked⟩ | ⟨f, good, type, checked⟩
    · obtain ⟨left, -, keeps, fails⟩ := only.receiveFailed_sendAck op .crcMismatch
      rw [checked, bad]
      exact ⟨left, keeps, nofun, fun _ => fails⟩
    · obtain ⟨left, keeps, succeeds, fails⟩ := only.receiveFrame_sendAck op
      rw [checked, good]
      refine ⟨left, keeps, ?_, fun other => fails fun ack => other f rfl (type.symm.trans ack)⟩
      rintro ⟨f', same, ack⟩
      obtain rfl := Option.some.inj same
      exact succeeds (type.trans ack)
  case badLength =>
    intro s hdr rest phase op taken need quiet three illegal holds
    have run := State.AtHeader.run_badLength ⟨phase, taken, need, quiet⟩ three illegal holds
    exact ⟨_, run, (s.onlyReceives_headed hdr rest).receiveFailed_sendAck op .badLength⟩
  case lastTick =>
    intro s events reads op last short scheduled
    obtain ⟨m, ticked⟩ := step_lastTick reads last short scheduled
    exact ⟨_, ticked, State.inputs_receiveFailed _ _,
      (s.onlyReceives_cutShort events m).receiveFailed_sendAck op .truncated⟩
  case zeroWindow =>
    intro s events phase op last window scheduled
    obtain ⟨left, count, keeps, fails⟩ := (s.onlyReceives_transmitted events).receiveFailed_sendAck op .truncated
    exact ⟨_, step_endTransmit_zeroWindow phase op last window scheduled, by rw [State.inputs_receiveFailed]; simp,
      by rw [left]; simp, by rw [count]; simp, keeps, fails⟩

/-! ### POLL -/

/-- `s` after the CMD write of a POLL that has begun its receive (R112, R234, R291). -/
def State.polling (s : State) (code : Byte) (len : Nat) : State :=
  { s with
    done := false, op := .poll, code := code, len := BitVec.ofNat 8 len, phase := .rxHdr, timer := s.pollTimeout
    need := 3#7, taken := 0#7, inputs := [], reply := some ⟨false, none⟩ }

section Poll

variable {s u : State} {code : Byte} {len : Nat}

/-- The CMD write of a POLL over received bytes begins a receive. -/
theorem step_poll (idle : s.phase = .idle) (fits : len < 256) (window : s.pollTimeout ≠ 0#24)
    (scheduled : s.inputs = [.write (encode (.poll code len))]) (bytes : s.chanRx ≠ []) :
    step s = .next (s.polling code len) := by
  rw [step_exec scheduled (decodeAfterEncode _ (decide_eq_true fits))]
  change Host.Outcome.next (((s.taking []).written).issue .poll code len State.beginPoll) = _
  rw [State.issue_idle _ _ _ _ _ (State.busy_of_idle (s := (s.taking []).written) idle)]
  rcases (((s.taking []).written).accept .poll code len).beginPoll_cases with ⟨none, -⟩ | ⟨-, begins⟩
  · exact absurd none bytes
  rcases (((s.taking []).written).accept .poll code len).beginReceive_cases s.pollTimeout with ⟨zero, -⟩ | ⟨-, starts⟩
  · exact absurd zero window
  · exact congrArg Host.Outcome.next (begins.trans starts)

theorem State.polling_atHeader (s : State) (code : Byte) (len : Nat) : (s.polling code len).AtHeader :=
  ⟨rfl, rfl, rfl, rfl⟩

theorem State.keepsFrames_polling (s : State) (code : Byte) (len : Nat) : s.keepsFrames (s.polling code len) := by
  simp [State.keepsFrames, State.keeps, State.polling]

/-- A receive of POLL that ends without a frame completes it with the outcome and the count of the bytes taken (R295). -/
theorem State.OnlyReceives.receiveFailed_poll (h : (s.polling code len).OnlyReceives u) (o : RxOutcome) :
    (u.receiveFailed o).result = ⟨o.res, false, 0#8, countOf u.taken, 0x04#8⟩ ∧ (u.receiveFailed o).done = true ∧
      (u.receiveFailed o).phase = .idle ∧ (u.receiveFailed o).chanRx = u.chanRx ∧ (u.receiveFailed o).wake = s.wake ∧
      s.keepsFrames (u.receiveFailed o) := by
  have op : u.op = .poll := h.op
  have failed : u.receiveFailed o = (u.setRx o).complete o.res 0#8 (countOf u.taken) false := by
    rw [State.receiveFailed, op]
  refine ⟨?_, ?_, ?_, ?_, ?_, (s.keepsFrames_polling code len).trans (h.frames.trans (u.keepsFrames_receiveFailed o))⟩
  · rw [failed, State.complete_result, State.setRx_op, op]
    rfl
  · rw [failed]; rfl
  · rw [failed]; rfl
  · rw [failed]; rfl
  · rw [failed]; exact h.wake

end Poll

/-- Settles O32: the receive begins in the step of the CMD write, and its failure is POLL's result. -/
theorem pollDiscardsABadFrame : Obligations.PollDiscardsABadFrame := by
  intro s code len hdr body rest idle fits window scheduled
  refine ⟨fun frame holds bad => ?crc, fun three illegal holds => ?badLength⟩
  case crc =>
    obtain ⟨three, -, bound⟩ := frame.lengths
    have length : (hdr ++ body).length = hdr.length + body.length := List.length_append
    have bytes : s.chanRx ≠ [] := List.ne_nil_of_length_pos (by simp [holds, three])
    have run := (s.polling_atHeader code len).run_receive window frame holds
    obtain ⟨result, others⟩ :=
      ((s.polling code len).onlyReceives_collected hdr body rest).receiveFailed_poll .crcMismatch
    rcases (s.polling code len).collected_checkFrame rest frame with ⟨-, checked⟩ | ⟨f, good, -⟩
    · rw [checked] at run
      refine ⟨_, ?_, ?_, others⟩
      · rw [Nat.add_comm, run_succ _ (step_poll idle fits window scheduled bytes), length, run]
      · rw [result]
        exact congrArg (Result.mk .crcMismatch false 0#8 · 0x04#8) (countOf_frameLength (by omega))
    · cases bad.symm.trans good
  case badLength =>
    have bytes : s.chanRx ≠ [] := List.ne_nil_of_length_pos (by simp [holds, three])
    have run := (s.polling_atHeader code len).run_badLength three illegal holds
    have ends := ((s.polling code len).onlyReceives_headed hdr rest).receiveFailed_poll .badLength
    exact ⟨_, (run_succ 3 (step_poll idle fits window scheduled bytes)).trans run, ends⟩

/-! ### WAIT_DL -/

/-- `s` after the last tick of a sleep of WAIT_DL: one unit of the budget is spent (R310). -/
def State.woken (s : State) (events : List Event) : State :=
  { s with inputs := events, timer := 0#24, pollsLeft := s.pollsLeft - 1#8 }

section Sleep

variable {s : State} {events : List Event}

/-- The last tick of a sleep ends WAIT_DL if it spends the last unit of the budget, and else begins the next poll (R310). -/
theorem step_endSleep (phase : s.phase = .pollSleep) (last : s.timer = 1#24) (scheduled : s.inputs = .tick :: events) :
    (s.pollsLeft = 1#8 → step s = .next ((s.woken events).complete .waitExhausted 0#8 s.polls false)) ∧
    (s.pollsLeft ≠ 1#8 → step s = .next (s.woken events).beginPoll) := by
  have spent : s.pollsLeft - 1#8 = 0#8 ↔ s.pollsLeft = 1#8 := by constructor <;> intro h <;> bv_omega
  have woken : (s.taking events).tickDown.spendBudget = s.woken events := by
    simp [State.spendBudget, State.tickDown, State.taking, State.woken, last]
  have ticked : step s = .next (s.taking events).tickDown.endSleep := by
    rw [step_perform scheduled rfl]
    simp [State.perform, State.onTick, State.countDown, phase, last]
  rw [ticked, State.endSleep, woken, show (s.woken events).pollsLeft = s.pollsLeft - 1#8 from rfl]
  exact ⟨fun one => by rw [if_pos (spent.mpr one)]; rfl, fun more => by rw [if_neg (mt spent.mp more)]⟩

end Sleep

/-- Settles O39: a failed receive sleeps, and the end of a sleep goes by the budget, the channel and the window. -/
theorem waitDlFailedPollSleeps : Obligations.WaitDlFailedPollSleeps := by
  refine ⟨?crc, ?badLength, ?lastTick, ?endSleep⟩
  case crc =>
    intro s hdr body rest phase op taken need window quiet frame holds bad
    have run := State.AtHeader.run_receive ⟨phase, taken, need, quiet⟩ (by simpa only [State.window, op] using window)
      frame holds
    rcases s.collected_checkFrame rest frame with ⟨-, checked⟩ | ⟨f, good, -⟩
    · rw [checked] at run
      exact ⟨_, run, (s.onlyReceives_collected hdr body rest).receiveFailed_waitDl op .crcMismatch⟩
    · cases bad.symm.trans good
  case badLength =>
    intro s hdr rest phase op taken need quiet three illegal holds
    have run := State.AtHeader.run_badLength ⟨phase, taken, need, quiet⟩ three illegal holds
    exact ⟨_, run, (s.onlyReceives_headed hdr rest).receiveFailed_waitDl op .badLength⟩
  case lastTick =>
    intro s events reads op last short scheduled
    obtain ⟨m, ticked⟩ := step_lastTick reads last short scheduled
    exact ⟨_, ticked, State.inputs_receiveFailed _ _,
      (s.onlyReceives_cutShort events m).receiveFailed_waitDl op .truncated⟩
  case endSleep =>
    intro s events phase op last scheduled
    obtain ⟨exhausted, polls⟩ := step_endSleep phase last scheduled
    obtain ⟨empty, receive, truncated⟩ := State.beginPoll_waitDl (s := s.woken events) op
    refine ⟨fun one => ?_, fun more none => ?_, fun more bytes window => ?_, fun more bytes window => ?_⟩
    · rw [exhausted one]
      simp [State.complete, State.finish, State.woken, one, op, Op.byte]
    · rw [polls more, empty none, ← s.countPoll_eq_pollsAfter]
      simp [State.pollAgainLater, State.wait, State.countPoll, State.woken, Config.pollSleepTicks, phase]
    · rw [polls more, receive bytes window]
      simp [State.startStage, State.wait, State.clearStage, State.woken]
    · rw [polls more, truncated bytes window, ← s.countPoll_eq_pollsAfter]
      simp [State.pollAgainLater, State.wait, State.countPoll, State.setRx, State.clearStage, State.woken,
        Config.pollSleepTicks, phase]

end Sys2Proof.Machine
end

section
/-! SUPPORT. Ticks that a timer counts: one tick, and the run of the ticks of a whole delay or silent window. -/

namespace Sys2Proof.Machine

/-! ### A tick that a timer counts -/

section Timers

variable {s : State} {events : List Event}

/-- A count that is not 0 is one more than some number. -/
theorem toNat_eq_succ {w : Nat} {x : BitVec w} (nonzero : x ≠ 0#w) : ∃ n, x.toNat = n + 1 :=
  Nat.exists_eq_succ_of_ne_zero fun zero => nonzero (BitVec.eq_of_toNat_eq (by simpa using zero))

theorem step_tick (scheduled : s.inputs = .tick :: events) : step s = .next (s.taking events).onTick :=
  step_perform scheduled rfl

/-- The phases of the four delays (R237). -/
def Phase.delaying : Phase → Bool
  | .txSettle1 | .txSettle2 | .retryWait | .pollSleep => true
  | .idle | .build | .txBytes | .txFlush | .rxHdr | .rxBody | .rxCheck | .store | .copy => false

/-- What the tick that makes the timer 0 leads to, in each phase that counts ticks (R224, R225, R231, R263, R310). -/
def State.timedOut (s : State) : State :=
  match s.phase with
  | .txSettle1 => s.beginBytes
  | .txSettle2 => s.endTransmit
  | .retryWait => s.retry
  | .pollSleep => s.endSleep
  | .rxHdr | .rxBody => s.receiveFailed .truncated
  | .idle | .build | .txBytes | .txFlush | .rxCheck | .store | .copy => s

/-- `s` after `n` ticks that it has only counted. -/
def State.ticked (s : State) (n : Nat) (events : List Event) : State :=
  { s with timer := s.timer - BitVec.ofNat 24 n, inputs := events }

/-- `s` after the last tick of its timer, before what that tick leads to. -/
def State.expired (s : State) (events : List Event) : State := { s with timer := 0#24, inputs := events }

/-- `s` has nothing to do but to count ticks: a delay, or a read stage that needs a byte of an empty channel. -/
def State.Waits (s : State) : Prop :=
  s.phase.delaying = true ∨ (s.phase.receiving = true ∧ s.need ≠ 0#7 ∧ s.chanRx = [])

theorem Phase.delaying_iff (p : Phase) :
    p.delaying = true ↔ p = .txSettle1 ∨ p = .txSettle2 ∨ p = .retryWait ∨ p = .pollSleep := by
  cases p <;> simp [Phase.delaying]

theorem Phase.counting_iff (p : Phase) :
    p.counting = true ↔
      p = .txSettle1 ∨ p = .txSettle2 ∨ p = .retryWait ∨ p = .pollSleep ∨ p = .rxHdr ∨ p = .rxBody := by
  cases p <;> simp [Phase.counting]

theorem State.takeBytes_of_empty (s : State) (n : Nat) (empty : s.chanRx = []) : s.takeBytes n = s := by
  induction n with
  | zero => rfl
  | succ n ih => rwa [State.takeBytes, State.takeByte, empty]

theorem State.countDown_congr {f g : State → State} (same : f s.tickDown = g s.tickDown) :
    s.countDown f = s.countDown g := by
  rw [State.countDown, State.countDown, same]

/-- A tick in a delay goes to its timer. -/
theorem State.onTick_of_delaying (delays : s.phase.delaying = true) : s.onTick = s.countDown State.timedOut := by
  rcases (Phase.delaying_iff _).mp delays with phase | phase | phase | phase <;> rw [State.onTick, phase] <;>
    exact State.countDown_congr (by simp [State.timedOut, phase])

/-- A tick of a read stage goes to its timer when the takes that come first leave it short (R231). -/
theorem State.onTick_of_short (reads : s.phase.receiving = true) (short : (s.takeBytes s.need.toNat).need ≠ 0#7) :
    s.onTick = (s.takeBytes s.need.toNat).countDown State.timedOut := by
  have kept : (s.takeBytes s.need.toNat).phase = s.phase := State.takeBytes_keeps State.phase (fun _ _ _ => rfl) s _
  have ticked : s.onTick = (s.takeBytes s.need.toNat).countDown fun u => u.receiveFailed .truncated := by
    rcases (Phase.receiving_iff _).mp reads with phase | phase <;> simp [State.onTick, State.stageTest, short, phase]
  rw [ticked]
  rcases (Phase.receiving_iff _).mp reads with phase | phase <;>
    exact State.countDown_congr (by simp [State.timedOut, kept, phase])

/-- A tick of a read stage completes the stage when the takes that come first fill it, whatever the timer (R231). -/
theorem State.onTick_of_full (reads : s.phase.receiving = true) (full : (s.takeBytes s.need.toNat).need = 0#7) :
    s.onTick = (s.takeBytes s.need.toNat).stageComplete := by
  rcases (Phase.receiving_iff _).mp reads with phase | phase <;> simp [State.onTick, State.stageTest, full, phase]

theorem State.Waits.onTick (h : s.Waits) : s.onTick = s.countDown State.timedOut := by
  rcases h with delays | ⟨reads, need, empty⟩
  · exact State.onTick_of_delaying delays
  · have none := s.takeBytes_of_empty s.need.toNat empty
    rw [State.onTick_of_short reads (by rwa [none]), none]

/-- The counted tick of a timer, before its last tick and on it (R237). -/
theorem State.countDown_timedOut (s : State) (events : List Event) :
    (s.timer ≠ 1#24 → (s.taking events).countDown State.timedOut = s.ticked 1 events) ∧
    (s.timer = 1#24 → (s.taking events).countDown State.timedOut = (s.expired events).timedOut) := by
  constructor
  · intro more
    have left : s.timer - 1#24 ≠ 0#24 := by bv_omega
    rw [State.countDown, if_neg (by simpa using left)]
    rfl
  · intro last
    rw [State.countDown, if_pos (by simp [last])]
    simp [State.tickDown, State.taking, State.expired, last]

theorem step_countTick (h : s.Waits) (scheduled : s.inputs = .tick :: events) :
    (s.timer ≠ 1#24 → step s = .next (s.ticked 1 events)) ∧
    (s.timer = 1#24 → step s = .next (s.expired events).timedOut) := by
  obtain ⟨more, last⟩ := s.countDown_timedOut events
  rw [step_tick scheduled, State.Waits.onTick (s := s.taking events) h]
  exact ⟨fun timer => congrArg _ (more timer), fun timer => congrArg _ (last timer)⟩

/-! ### The ticks of a whole delay or window -/

theorem tickEvents_split {k n : Nat} (below : k ≤ n) : tickEvents n = tickEvents k ++ tickEvents (n - k) := by
  rw [tickEvents, tickEvents, tickEvents, List.replicate_append_replicate, Nat.add_sub_of_le below]

/-- Fewer ticks than the timer holds only lower it (R237). -/
theorem State.Waits.run_ticks (h : s.Waits) (n : Nat) (below : n < s.timer.toNat)
    (scheduled : s.inputs = tickEvents n ++ events) : Sys2Proof.core.run n s = .next (s.ticked n events) := by
  induction n generalizing s with
  | zero =>
    subst scheduled
    simp [Host.Core.run, State.ticked]
  | succ n ih =>
    have more : s.timer ≠ 1#24 := fun one => by simp [one] at below
    have left : (s.timer - 1#24).toNat = s.timer.toNat - 1 := by bv_omega
    have first := (step_countTick (events := tickEvents n ++ events) h scheduled).1 more
    rw [run_succ n first, ih (s := s.ticked 1 _) h (by change n < (s.timer - 1#24).toNat; omega) rfl]
    simp only [State.ticked, BitVec.sub_sub, ← BitVec.ofNat_add, Nat.add_comm 1 n]

/-- As many ticks as the timer holds run it down, and the last one leads on (R237). -/
theorem State.Waits.run_timer (h : s.Waits) (ticks : s.timer ≠ 0#24)
    (scheduled : s.inputs = tickEvents s.timer.toNat ++ events) :
    Sys2Proof.core.run s.timer.toNat s = .next (s.expired events).timedOut := by
  obtain ⟨n, timer⟩ := toNat_eq_succ ticks
  have split : s.inputs = tickEvents n ++ (.tick :: events) := by
    rw [scheduled, timer, tickEvents_split n.le_succ, Nat.succ_sub (le_refl n), Nat.sub_self]
    simp [tickEvents]
  have last : (s.ticked n (.tick :: events)).timer = 1#24 := by
    change s.timer - BitVec.ofNat 24 n = 1#24
    have := s.timer.isLt
    bv_omega
  have waits : (s.ticked n (.tick :: events)).Waits := h
  rw [timer, run_add 1 (h.run_ticks n (by omega) split), run_succ 0 ((step_countTick waits rfl).2 last)]
  rfl

end Timers
end Sys2Proof.Machine
end

section
/-! SUPPORT. What a tick of a read stage does: the takes that come first, and the end of a stage that they fill. -/

namespace Sys2Proof.Machine

/-! ### Ticks of a read stage -/

theorem State.takeBytes_of_short (s : State) {n : Nat} (short : s.chanRx.length ≤ n) :
    s.takeBytes n = s.takeBytes s.chanRx.length := by
  induction n generalizing s with
  | zero => rw [Nat.le_zero.mp short]
  | succ n ih =>
    rcases s.takeByte_cases with ⟨empty, -⟩ | ⟨b, rest, holds, took⟩
    · rw [s.takeBytes_of_empty _ empty, s.takeBytes_of_empty _ empty]
    · have length : s.chanRx.length = rest.length + 1 := by rw [holds]; rfl
      have tail : (s.stageByte b rest).chanRx.length = rest.length := rfl
      rw [length, State.takeBytes, State.takeBytes, took, ih _ (by omega), tail]

/-- `s` after the takes of a stage that they do not fill: every byte of the channel is staged (R231). -/
def State.swept (s : State) (events : List Event) : State :=
  { s with
    inputs := events, chanRx := [], stg := (s.takeBytes s.chanRx.length).stg
    taken := s.taken + BitVec.ofNat 7 s.chanRx.length, need := s.need - BitVec.ofNat 7 s.chanRx.length }

theorem State.takeBytes_taking (s : State) (n : Nat) (events : List Event) :
    (s.taking events).takeBytes n = (s.takeBytes n).taking events := by
  induction n generalizing s with
  | zero => rfl
  | succ n ih =>
    have took : (s.taking events).takeByte = s.takeByte.taking events := by
      cases holds : s.chanRx <;> simp only [State.takeByte, State.taking_chanRx, holds]; rfl
    rw [State.takeBytes, took, ih]
    rfl

theorem State.takeBytes_swept (s : State) (n : Nat) (events : List Event) (short : s.chanRx.length ≤ n) :
    (s.taking events).takeBytes n = s.swept events := by
  rw [s.takeBytes_taking, s.takeBytes_of_short short, s.takeBytes_eq]
  simp [State.swept, State.taking]

/-- The staging buffer after such takes. -/
theorem State.swept_stg_read (s : State) (events : List Event) (room : s.taken.toNat + s.chanRx.length ≤ 64) (i : Nat) :
    (s.swept events).stg.read i =
      if s.taken.toNat ≤ i ∧ i < s.taken.toNat + s.chanRx.length then s.chanRx[i - s.taken.toNat]?
      else s.stg.read i := by
  change ((s.takeBytes s.chanRx.length).stg).read i = _
  rw [s.takeBytes_stg s.chanRx [] (List.append_nil _).symm room, Memory.read_writeAll _ _ _ _ room]

section Stages

variable {s : State} {events : List Event}

theorem State.onTick_of_not_counting (uncounted : s.phase.counting ≠ true) : s.onTick = s := by
  cases phase : s.phase <;> simp_all [State.onTick, Phase.counting]

/-- A tick over too few bytes takes them and is counted (R231). -/
theorem step_shortTick (reads : s.phase.receiving = true) (short : s.chanRx.length < s.need.toNat)
    (scheduled : s.inputs = .tick :: events) :
    (s.timer ≠ 1#24 → step s = .next ((s.swept events).ticked 1 events)) ∧
    (s.timer = 1#24 → step s = .next ((s.swept events).expired events).timedOut) := by
  have more : (s.swept events).need ≠ 0#7 := by
    change s.need - BitVec.ofNat 7 s.chanRx.length ≠ 0#7
    bv_omega
  have takes := s.takeBytes_swept s.need.toNat events short.le
  have ticked := State.onTick_of_short (s := s.taking events) reads (by rw [State.taking_need, takes]; exact more)
  rw [step_tick scheduled, ticked, State.taking_need, takes]
  obtain ⟨counts, ends⟩ := (s.swept events).countDown_timedOut events
  exact ⟨fun timer => congrArg _ (counts timer), fun timer => congrArg _ (ends timer)⟩

/-- The needed bytes fill the stage. -/
theorem State.takeBytes_need (s : State) (enough : s.need.toNat ≤ s.chanRx.length) :
    (s.takeBytes s.need.toNat).need = 0#7 := by
  rw [s.takeBytes_eq, Nat.min_eq_left enough, BitVec.ofNat_toNat, BitVec.setWidth_eq, BitVec.sub_self]

/-- A tick over enough bytes takes the needed ones, completes the stage and is not counted (R231). -/
theorem step_fullTick (reads : s.phase.receiving = true) (enough : s.need.toNat ≤ s.chanRx.length)
    (scheduled : s.inputs = .tick :: events) :
    step s = .next ((s.taking events).takeBytes s.need.toNat).stageComplete := by
  rw [step_tick scheduled]
  exact congrArg _ (State.onTick_of_full (s := s.taking events) reads ((s.taking events).takeBytes_need enough))

end Stages

/-! ### The end of a receive does not read the schedule -/

section Schedule

variable (s : State) (events : List Event)

/-- Both branches of a test commute with a change of the schedule. -/
theorem taking_ite {p : Prop} [Decidable p] {a b a' b' : State} (yes : a' = a.taking events)
    (no : b' = b.taking events) : (if p then a' else b') = (if p then a else b).taking events := by
  split
  · exact yes
  · exact no

theorem State.attemptFailed_taking : (s.taking events).attemptFailed = s.attemptFailed.taking events :=
  taking_ite events (taking_ite events rfl rfl) rfl

theorem State.receiveFailed_taking (o : RxOutcome) :
    (s.taking events).receiveFailed o = (s.receiveFailed o).taking events := by
  cases op : s.op <;> simp only [State.receiveFailed, State.taking_op, op]
  case sendAck => exact (s.setRx o).attemptFailed_taking events
  all_goals rfl

theorem State.beginPoll_taking : (s.taking events).beginPoll = s.beginPoll.taking events := by
  refine taking_ite events (taking_ite events (s.clearStage.receiveFailed_taking events _) rfl) ?_
  cases op : s.op <;> simp only [State.pollEmpty, State.taking_op, op] <;> rfl

theorem State.storeFrame_taking : (s.taking events).storeFrame = s.storeFrame.taking events :=
  taking_ite events rfl rfl

theorem State.receiveFrame_taking : (s.taking events).receiveFrame = s.receiveFrame.taking events := by
  have stored : ((s.taking events).setRx .frame).storeFrame = (s.setRx .frame).storeFrame.taking events :=
    (s.setRx .frame).storeFrame_taking events
  cases op : s.op <;> simp only [State.receiveFrame, State.taking_op, op, stored]
  case sendAck => exact taking_ite events rfl ((s.setRx .frame).attemptFailed_taking events)
  case waitDl => exact taking_ite events rfl ((s.setRx .frame).storeFrame.countPoll.beginPoll_taking events)
  all_goals rfl

theorem State.stageComplete_taking : (s.taking events).stageComplete = s.stageComplete.taking events := by
  cases phase : s.phase <;> simp only [State.stageComplete, State.taking_phase, phase]
  case rxHdr =>
    refine taking_ite events (taking_ite events ?_ rfl) (s.receiveFailed_taking events _)
    exact (s.enter .rxBody).receiveFailed_taking events _
  case rxBody =>
    have header : (s.taking events).header = s.header := rfl
    have body : (s.taking events).body = s.body := rfl
    cases parsed : parse s.header s.body <;> simp only [State.checkFrame, header, body, parsed]
    · exact (s.enter .rxCheck).receiveFailed_taking events _
    · exact (s.enter .rxCheck).receiveFrame_taking events

end Schedule

/-- With the body stage of POLL the operation is complete (R295). -/
theorem State.stageComplete_body_poll {s : State} (body : s.phase = .rxBody) (op : s.op = .poll) :
    s.stageComplete.phase = .idle ∧ s.stageComplete.done = true ∧ s.stageComplete.chanRx = s.chanRx ∧
      (s.stageComplete.result.res = .ok ∨ s.stageComplete.result.res = .crcMismatch) := by
  rcases s.stageComplete_cases with ⟨header, -⟩ | ⟨header, -⟩ | ⟨-, ends⟩ | ⟨-, other, -⟩
  · exact absurd (body.symm.trans header) nofun
  · exact absurd (body.symm.trans header) nofun
  · rw [ends]
    rcases s.checkFrame_cases with ⟨-, failed⟩ | ⟨f, -, checked⟩
    · rw [failed, State.receiveFailed, show (s.enter .rxCheck).op = .poll from op]
      exact ⟨rfl, rfl, rfl, .inr rfl⟩
    · rw [checked, State.receiveFrame, show (s.enter .rxCheck).op = .poll from op]
      refine ⟨rfl, rfl, ?_, .inl rfl⟩
      rw [State.complete_chanRx]
      rcases ((s.enter .rxCheck).setRx .frame).storeFrame_cases with ⟨-, stored⟩ | ⟨-, stored⟩ <;> rw [stored] <;> rfl
  · exact absurd body other

/-- Settles O51: a tick of a delay goes to its timer, and a tick of a read stage goes by the bytes in the channel. -/
theorem ticksCountInSixPhasesOnly : Obligations.TicksCountInSixPhasesOnly := by
  intro s rest scheduled
  refine ⟨?other, ?delay, ?settled1, ?sent, ?sentAck, ?retried, ?short, ?full⟩
  case other =>
    intro settle1 settle2 retry sleep header body
    have uncounted : s.phase.counting ≠ true := by
      simp [Phase.counting_iff, settle1, settle2, retry, sleep, header, body]
    rw [step_tick scheduled, State.onTick_of_not_counting (s := s.taking rest) uncounted]
    rfl
  case delay =>
    intro delays more
    exact (step_countTick (.inl ((Phase.delaying_iff _).mpr delays)) scheduled).1 more
  case settled1 =>
    intro phase last frame
    rw [(step_countTick (.inl (by rw [phase]; rfl)) scheduled).2 last]
    simp [State.timedOut, State.expired, State.beginBytes, State.startBytes, phase, frame]
  case sent =>
    intro phase last op
    rw [(step_countTick (.inl (by rw [phase]; rfl)) scheduled).2 last]
    simp [State.timedOut, State.expired, State.endTransmit, State.complete, State.finish, State.setWake, phase, op,
      Op.byte]
  case sentAck =>
    intro phase last op window
    rw [(step_countTick (.inl (by rw [phase]; rfl)) scheduled).2 last]
    simp [State.timedOut, State.expired, State.endTransmit, State.beginReceive, State.startStage, State.wait,
      State.clearStage, State.setWake, phase, op, window]
  case retried =>
    intro phase last
    rw [(step_countTick (.inl (by rw [phase]; rfl)) scheduled).2 last]
    simp [State.timedOut, State.expired, State.retry, State.beginTransmit, State.nextAttempt, State.setAttempt,
      State.wait, State.setWake, Config.settleTicks, phase]
  case short =>
    intro reads more short
    exact ⟨(s.swept rest).stg, (step_shortTick reads short scheduled).1 more, s.swept_stg_read rest⟩
  case full =>
    intro reads need enough
    obtain ⟨n, count⟩ := toNat_eq_succ need
    have ticked := step_fullTick reads enough scheduled
    have run := run_takes n (s := s.taking []) rfl reads count (count ▸ enough)
    rw [s.takeBytes_taking, State.stageComplete_taking] at ticked run
    rw [← count] at run
    refine ⟨⟨_, run, ticked⟩, fun body op => ⟨_, ticked, ?_⟩⟩
    obtain ⟨idle, done, left, result⟩ := State.stageComplete_body_poll (s := s.takeBytes s.need.toNat)
      ((State.takeBytes_keeps State.phase (fun _ _ _ => rfl) s _).trans body)
      ((State.takeBytes_keeps State.op (fun _ _ _ => rfl) s _).trans op)
    exact ⟨idle, done, left.trans (s.takeBytes_chanRx _), result⟩

end Sys2Proof.Machine
end

section
/-! SUPPORT. The begin and the window of a receive of POLL, and its bound: what a step of a running operation can be,
and what it leaves of the ticks to count. -/

namespace Sys2Proof.Machine

/-! ### The begin and the ends of a receive of POLL -/

section Poll

variable {s : State}

theorem State.receiveFailed_of_poll (op : s.op = .poll) (o : RxOutcome) :
    s.receiveFailed o = (s.setRx o).complete o.res 0#8 (countOf s.taken) false := by
  rw [State.receiveFailed, op]

theorem State.timedOut_of_receiving (reads : s.phase.receiving = true) :
    s.timedOut = s.receiveFailed .truncated := by
  rcases (Phase.receiving_iff _).mp reads with phase | phase <;> rw [State.timedOut, phase]

/-- A read stage of POLL whose window ends is TRUNCATED with the bytes taken so far (R232, R343). -/
theorem State.timedOut_of_poll (reads : s.phase.receiving = true) (op : s.op = .poll) :
    s.timedOut = { s with
      rx := .truncated, phase := .idle, done := true
      result := ⟨.truncated, false, 0#8, s.taken.zeroExtend 8, 0x04#8⟩ } := by
  rw [State.timedOut_of_receiving reads, State.receiveFailed_of_poll op]
  simp [State.complete, State.finish, State.setRx, RxOutcome.res, countOf, Op.byte, op]

end Poll

/-- Settles O30: the channel and the window decide how the poll begins. -/
theorem pollBegins : Obligations.PollBegins := by
  intro s code len idle fits
  have accepted : exec (.poll code len) s = .next (s.accept .poll code len).beginPoll :=
    congrArg Host.Outcome.next (State.issue_idle _ _ _ _ _ (State.busy_of_idle idle))
  rw [accepted]
  rcases (s.accept .poll code len).beginPoll_cases with ⟨empty, polled⟩ | ⟨bytes, polled⟩ <;> rw [polled]
  · refine ⟨fun _ => ?_, fun bytes => absurd empty bytes, fun bytes => absurd empty bytes⟩
    cases s
    subst idle
    rfl
  · refine ⟨fun empty => absurd empty bytes, fun _ window => ?_, fun _ window => ?_⟩
    · rw [State.accept_pollTimeout, State.beginReceive, if_neg window]
      rfl
    · rw [State.accept_pollTimeout, State.beginReceive, if_pos window, State.receiveFailed_of_poll rfl]
      cases s
      subst idle
      rfl

/-- Settles O33: the ticks of a silent window, and the last tick over too few bytes. -/
theorem silentWindowIsTruncated : Obligations.SilentWindowIsTruncated := by
  refine ⟨fun s k rest reads op need empty _ scheduled => ?silent, fun s rest reads op last short scheduled => ?bytes⟩
  case silent =>
    have waits : s.Waits := .inr ⟨reads, need, empty⟩
    refine ⟨fun more => waits.run_ticks k more scheduled, fun all some => ?_⟩
    subst all
    have ticks : s.timer ≠ 0#24 := fun zero => some (congrArg BitVec.toNat zero)
    rw [waits.run_timer ticks scheduled, State.timedOut_of_poll (s := s.expired rest) reads op]
    rfl
  case bytes =>
    refine ⟨(s.swept rest).stg, ?_, s.swept_stg_read rest⟩
    rw [(step_shortTick reads short scheduled).2 last,
      State.timedOut_of_poll (s := (s.swept rest).expired rest) reads op]
    rfl

/-! ### A step of a running operation -/

/-- What a running operation counts by: its phase, its timer and its window, with the wake line. -/
def State.clock (s : State) : Op × Phase × Ticks × Ticks × Bool := (s.op, s.phase, s.timer, s.pollTimeout, s.wake)

theorem State.writeOther_clock_of_busy (s : State) (b : BusWrite) (e : DecodeError) (busy : s.busy = true) :
    (s.writeOther b e).clock = s.clock := by
  cases e with
  | misaligned | unmapped => rfl
  | reservedBits | illegalOp =>
    have refused : s.illegal (opField b.data) = s.refuse := by simp [State.illegal, busy]
    rw [State.writeOther, refused]
    rfl
  | registerWrite r =>
    cases r with
    | ackTimeout | retryDelay | maxAttempts | pollTimeout | txbuf =>
      rw [State.writeOther, State.writeReg, s.guarded_busy _ busy]
      rfl
    | _ => rfl

/-- What a step of a running operation can be: while it runs, only a tick, the core's own step, an acceptance and the
reset event move it. -/
inductive BusyStep (s : State) : State → Prop
  | ticks (event : s.nextEvent = some .tick) : BusyStep s (s.taking s.inputs.tail).onTick
  | core (event : s.nextEvent = none ∨ s.nextEvent = some .core) : BusyStep s (s.taking s.inputs.tail).coreStep
  | accepts (event : s.nextEvent = some .accept) : BusyStep s (s.taking s.inputs.tail).acceptByte
  | resets {t : State} (event : s.nextEvent = some .reset) (idle : t.phase = .idle) : BusyStep s t
  | others {t : State} (event : s.nextEvent ≠ some .tick) (same : t.clock = s.clock) : BusyStep s t

theorem step_of_busy {s t : State} (stepped : step s = .next t) (busy : s.busy = true) : BusyStep s t := by
  rcases step_cases s with ⟨inputs, core⟩ | ⟨b, rest, i, inputs, -, run⟩ | ⟨e, rest, inputs, -, event⟩
  · have taken : s.coreStep = (s.taking s.inputs.tail).coreStep := by cases s; simp_all [State.taking]
    obtain rfl := Host.Outcome.next.inj (core.symm.trans stepped)
    rw [taken]
    exact .core (.inl (by simp [State.nextEvent, inputs]))
  · have other : s.nextEvent ≠ some .tick := by simp [State.nextEvent, inputs]
    rw [run] at stepped
    rcases exec_busy i (s.taking rest).written busy with refused | ⟨c, crc⟩
    · obtain rfl := Host.Outcome.next.inj (refused.symm.trans stepped)
      exact .others other rfl
    · obtain rfl := Host.Outcome.next.inj (crc.symm.trans stepped)
      exact .others other rfl
  · have next : s.nextEvent = some e := by simp [State.nextEvent, inputs]
    have tail : s.inputs.tail = rest := by rw [inputs]; rfl
    obtain rfl := Host.Outcome.next.inj (event.symm.trans stepped)
    rw [← tail]
    cases e with
    | tick => exact .ticks next
    | core => exact .core (.inr next)
    | accept => exact .accepts next
    | reset => exact .resets next rfl
    | arrive => exact .others (by simp [next]) rfl
    | read a =>
      obtain ⟨r, n, read⟩ := (s.taking s.inputs.tail).busRead_frame a
      exact .others (by simp [next]) ((congrArg State.clock read).trans rfl)
    | sent =>
      obtain ⟨tx, wire, sent, -⟩ := (s.taking s.inputs.tail).sendOldest_effect
      exact .others (by simp [next]) ((congrArg State.clock sent).trans rfl)
    | write b =>
      refine .others (by simp [next]) ?_
      simp only [State.perform]
      split
      · rfl
      · exact (s.taking s.inputs.tail).writeOther_clock_of_busy b _ busy

/-! ### The bound of a receive of POLL -/

/-- A read stage of POLL with ticks to count. -/
def State.PollReads (s : State) : Prop := s.op = .poll ∧ s.phase.receiving = true ∧ s.timer ≠ 0#24

/-- The ticks that a receive of POLL can still count: those of its stage, and a window for a body stage to come. -/
def State.ticksLeft (s : State) : Nat := s.timer.toNat + if s.phase = .rxHdr then s.pollTimeout.toNat else 0

/-- `t` is the end of the POLL of `s`, or its receive with at most `n` ticks left. -/
def State.PollGoesOn (s : State) (n : Nat) (t : State) : Prop :=
  t.phase = .idle ∨ (t.PollReads ∧ t.pollTimeout = s.pollTimeout ∧ t.ticksLeft ≤ n)

section Bound

variable {s : State}

theorem State.PollReads.ticksLeft_pos (h : s.PollReads) : 0 < s.ticksLeft := by
  obtain ⟨n, timer⟩ := toNat_eq_succ h.2.2
  rw [State.ticksLeft, timer]
  omega

/-- A complete header begins the body stage with the window that was counted for it, and a complete body ends POLL. -/
theorem State.PollReads.stageComplete (h : s.PollReads) : s.PollGoesOn (s.ticksLeft - 1) s.stageComplete := by
  obtain ⟨op, reads, ticks⟩ := h
  obtain ⟨n, timer⟩ := toNat_eq_succ ticks
  rcases (Phase.receiving_iff _).mp reads with header | body
  · rcases s.stageComplete_cases with ⟨-, -, begins⟩ | ⟨-, -, ends⟩ | ⟨body, -⟩ | ⟨other, -⟩
    · have window : s.window = s.pollTimeout := by rw [State.window, op]
      rcases s.beginBody_cases with ⟨-, ends⟩ | ⟨some, starts⟩
      · exact .inl (by rw [begins, ends, State.receiveFailed_of_poll (s := s.enter .rxBody) op]; rfl)
      · rw [begins, starts, window]
        refine .inr ⟨⟨op, rfl, window ▸ some⟩, rfl, ?_⟩
        simp [State.ticksLeft, header, timer]
    · exact .inl (by rw [ends, State.receiveFailed_of_poll op]; rfl)
    · exact absurd (header.symm.trans body) nofun
    · exact absurd header other
  · exact .inl (State.stageComplete_body_poll body op).1

theorem State.PollGoesOn.mono {n m : Nat} {t : State} (h : s.PollGoesOn n t) (le : n ≤ m) : s.PollGoesOn m t :=
  h.imp_right fun ⟨reads, same, left⟩ => ⟨reads, same, left.trans le⟩

/-- Takes leave what the receive counts. -/
theorem State.takeBytes_pollGoesOn (s : State) (n : Nat) :
    (s.PollReads → (s.takeBytes n).PollReads) ∧ (s.takeBytes n).ticksLeft = s.ticksLeft ∧
      ∀ m t, (s.takeBytes n).PollGoesOn m t → s.PollGoesOn m t := by
  rw [State.takeBytes_eq]
  exact ⟨id, rfl, fun _ _ => id⟩

/-- A tick ends POLL, or one tick less is left (R231). -/
theorem State.PollReads.onTick (h : s.PollReads) : s.PollGoesOn (s.ticksLeft - 1) s.onTick := by
  have reads := h.2.1
  obtain ⟨took, left, goes⟩ := s.takeBytes_pollGoesOn s.need.toNat
  rw [← left]
  refine goes _ _ ?_
  by_cases full : (s.takeBytes s.need.toNat).need = 0#7
  · rw [State.onTick_of_full reads full]
    exact (took h).stageComplete
  · rw [State.onTick_of_short reads full]
    obtain ⟨op, reads, ticks⟩ := took h
    generalize s.takeBytes s.need.toNat = u at op reads ticks
    rcases u.countDown_cases State.timedOut with ⟨-, ends⟩ | ⟨more, counts⟩
    · rw [ends, State.timedOut_of_poll (s := u.tickDown) reads op]
      exact .inl rfl
    · have less : (u.timer - 1#24).toNat < u.timer.toNat := by bv_omega
      rw [counts]
      exact .inr ⟨⟨op, reads, more⟩, rfl, Nat.le_sub_one_of_lt (Nat.add_lt_add_right less _)⟩

/-- The core's own step takes a byte or ends a stage, and counts nothing (R230). -/
theorem State.PollReads.coreStep (h : s.PollReads) : s.PollGoesOn s.ticksLeft s.coreStep := by
  have steps : s.coreStep = s.stageTest fun s => (s.takeBytes 1).stageTest id := by
    rcases (Phase.receiving_iff _).mp h.2.1 with phase | phase <;> rw [State.coreStep, phase] <;> rfl
  rw [steps]
  rcases s.stageTest_cases fun s => (s.takeBytes 1).stageTest id with ⟨-, ends⟩ | ⟨-, takes⟩
  · rw [ends]
    exact h.stageComplete.mono (Nat.sub_le _ _)
  · obtain ⟨took, left, goes⟩ := s.takeBytes_pollGoesOn 1
    rw [takes, ← left]
    refine goes _ _ ?_
    rcases (s.takeBytes 1).stageTest_cases id with ⟨-, ends⟩ | ⟨-, more⟩
    · rw [ends]
      exact (took h).stageComplete.mono (Nat.sub_le _ _)
    · rw [more]
      exact .inr ⟨took h, rfl, le_rfl⟩

/-- No event lengthens a receive of POLL, and a tick shortens it. -/
theorem State.PollReads.step {t : State} (h : s.PollReads) (stepped : step s = .next t) :
    s.PollGoesOn s.ticksLeft t ∧ (s.nextEvent = some .tick → s.PollGoesOn (s.ticksLeft - 1) t) := by
  have running : s.phase ≠ .idle := fun idle => by simpa [idle, Phase.receiving] using h.2.1
  have taken : (s.taking s.inputs.tail).PollReads := h
  cases step_of_busy stepped (s.busy_iff.mpr running) with
  | ticks => exact ⟨taken.onTick.mono (Nat.sub_le _ _), fun _ => taken.onTick⟩
  | core event => exact ⟨taken.coreStep, fun tick => by simp [tick] at event⟩
  | accepts event =>
    refine ⟨?_, fun tick => by simp [tick] at event⟩
    rcases (s.taking s.inputs.tail).acceptByte_effect with still | ⟨bytes, -⟩
    · rw [still]
      exact .inr ⟨h, rfl, le_rfl⟩
    · exact absurd h.2.1 (by rw [show s.phase = .txBytes from bytes]; nofun)
  | resets event idle => exact ⟨.inl idle, fun _ => .inl idle⟩
  | others event same =>
    refine ⟨.inr ?_, fun tick => absurd tick event⟩
    simp only [State.clock, Prod.mk.injEq] at same
    obtain ⟨op, phase, timer, window, -⟩ := same
    rw [State.PollReads, State.ticksLeft, op, phase, timer, window]
    exact ⟨h, rfl, le_rfl⟩

end Bound
end Sys2Proof.Machine
end

section
/-! SUPPORT. The begin of the body stage of every receive, and the frame that POLL stores. -/

namespace Sys2Proof.Machine

/-! ### The begin of the body stage -/

section Body

variable {s : State} {got more : List Byte} {window : Ticks}

/-- The header bytes end with the declared length (R191). -/
theorem State.takeBytes_declared (holds : s.chanRx = got ++ more) (some : got ≠ [])
    (header : s.taken.toNat + got.length = 3) : (s.takeBytes got.length).declared = got.getLastD 0#8 := by
  have length : 0 < got.length := List.length_pos_iff.mpr some
  have last : 2 - s.taken.toNat = got.length - 1 := by omega
  rw [State.declared, State.byteAt, State.buffer, s.takeBytes_stg got more holds (by omega),
    Memory.read_writeAll _ _ _ _ (by omega), if_pos (by omega), last, ← List.getLast?_eq_getElem?,
    List.getLast?_eq_some_getLast some, List.getLastD_eq_getLast?, List.getLast?_eq_some_getLast some]
  rfl

/-- The last header bytes with a legal declared length lead to the body stage (R234, R236). -/
theorem State.bodyBegins_takeBytes (phase : s.phase = .rxHdr) (holds : s.chanRx = got ++ more) (some : got ≠ [])
    (header : s.taken.toNat + got.length = 3) (legal : lengthLegal (got.getLastD 0#8) = true)
    (full : s.window = window) (ticks : window ≠ 0#24) :
    s.bodyBegins (s.takeBytes got.length).stageComplete window (got.getLastD 0#8) more := by
  have declared := s.takeBytes_declared holds some header
  have kept : (s.takeBytes got.length).phase = .rxHdr :=
    (State.takeBytes_keeps State.phase (fun _ _ _ => rfl) s _).trans phase
  have same : (s.takeBytes got.length).window = window :=
    (State.takeBytes_keeps State.window (fun _ _ _ => rfl) s _).trans full
  have taken : s.taken + BitVec.ofNat 7 got.length = 3#7 := by bv_omega
  rcases (s.takeBytes got.length).stageComplete_cases with ⟨-, -, begins⟩ | ⟨-, illegal, -⟩ | ⟨other, -⟩ | ⟨other, -⟩
  · rcases (s.takeBytes got.length).beginBody_cases with ⟨zero, -⟩ | ⟨-, starts⟩
    · exact absurd (same.symm.trans zero) ticks
    · have bound := (lengthLegal_iff _).mp legal
      have all := s.takeBytes_all got more holds (by omega)
      rw [begins, starts, declared, same]
      rw [all] at declared ⊢
      refine ⟨rfl, rfl, rfl, ?_, taken, declared, rfl, rfl, rfl, rfl, rfl, rfl, rfl, ?_⟩
      · change ((got.getLastD 0#8).setWidth 7).toNat = _
        rw [BitVec.toNat_setWidth]
        omega
      · simp [State.keepsFrames, State.keeps]
  · rw [declared, legal] at illegal
    cases illegal
  · exact absurd (kept.symm.trans other) nofun
  · exact absurd kept other

end Body

/-- Settles O34: the bound step by step, and the begin of the body stage by the core's steps and by a tick. -/
theorem pollReceiveIsBounded : Obligations.PollReceiveIsBounded := by
  refine ⟨fun s t op reads ticks stepped => ?bound, ?body⟩
  case bound =>
    have receives : s.PollReads := ⟨op, reads, ticks⟩
    obtain ⟨goes, shortens⟩ := receives.step stepped
    have pos := receives.ticksLeft_pos
    rcases goes with idle | ⟨⟨op', reads', ticks'⟩, same, left⟩
    · exact .inl idle
    by_cases ended : t.phase = .idle
    · exact .inl ended
    refine .inr ⟨reads', op', ticks', same, left, fun tick => ?_⟩
    rcases shortens tick with idle | ⟨-, -, less⟩
    · exact absurd idle ended
    · exact Nat.lt_of_le_of_lt less (Nat.sub_lt pos Nat.one_pos)
  case body =>
    intro s window got more phase receives ticks need count length legal holds
    have full : s.window = window := by
      rcases receives with ⟨op, rfl⟩ | ⟨op | op, rfl⟩ <;> rw [State.window, op]
    have reads : s.phase.receiving = true := by rw [phase]; rfl
    obtain ⟨n, some⟩ := toNat_eq_succ need
    have enough : s.need.toNat ≤ s.chanRx.length := by simp [holds, length]
    have begins := State.bodyBegins_takeBytes phase holds (List.ne_nil_of_length_pos (by omega)) (by omega) legal full
      ticks
    refine ⟨fun quiet => ⟨_, ?_, ?_, begins⟩,
      fun rest scheduled => ⟨(s.takeBytes got.length).stageComplete.taking rest, ?_, rfl, begins⟩⟩
    · rw [length, some]
      exact run_takes n quiet reads some (some ▸ enough)
    · have host := (State.stageComplete_hostSide _).trans (s.takeBytes_hostSide got.length)
      exact (congrArg HostSide.inputs host).trans quiet
    · rw [step_fullTick reads enough scheduled, s.takeBytes_taking, State.stageComplete_taking, length]

/-! ### The frame that a receive stores -/

/-- The STORE step of a frame: the slot of its class holds the frame and its length, and the other slot is as before
(R293). -/
theorem State.storeFrame_slots {u : State} {type : Byte} {frame : List Byte} (shown : u.typeByte = type)
    (staged : u.staged = frame) (fits : frame.length ≤ 64) :
    if type = u.params.codes.respDownlink then
      u.storeFrame.dlLen = BitVec.ofNat 7 frame.length ∧
      (∀ i : Nat, u.storeFrame.dlslot.read i = if i < frame.length then frame[i]? else u.dlslot.read i) ∧
      u.storeFrame.respslot = u.respslot ∧ u.storeFrame.respLen = u.respLen
    else
      u.storeFrame.respLen = BitVec.ofNat 7 frame.length ∧
      (∀ i : Nat, u.storeFrame.respslot.read i = if i < frame.length then frame[i]? else u.respslot.read i) ∧
      u.storeFrame.dlslot = u.dlslot ∧ u.storeFrame.dlLen = u.dlLen := by
  subst shown staged
  rcases u.storeFrame_cases with ⟨downlink, stored⟩ | ⟨other, stored⟩
  · rw [if_pos downlink, stored]
    refine ⟨rfl, fun i => ?_, rfl, rfl⟩
    rw [State.putDownlink_dlslot, Memory.read_writeAll _ _ _ _ (by omega)]
    simp
  · rw [if_neg other, stored]
    refine ⟨rfl, fun i => ?_, rfl, rfl⟩
    rw [State.putResponse_respslot, Memory.read_writeAll _ _ _ _ (by omega)]
    simp

/-- The bytes stored are those of the frame taken (R290). -/
theorem State.collected_staged (s : State) {hdr body : List Byte} (rest : List Byte) (frame : delimited hdr body) :
    (s.collected hdr body rest).staged = hdr ++ body := by
  obtain ⟨three, -, bound⟩ := frame.lengths
  have length : (hdr ++ body).length ≤ 64 := by rw [List.length_append]; omega
  have taken : (s.collected hdr body rest).taken.toNat = (hdr ++ body).length := toNat_frameLength length
  rw [State.staged, taken, State.bytes_staged rfl length (Nat.zero_add _).le, List.drop_zero, List.take_length]

/-- A move of the sequencer keeps what only host accesses and the start of an operation write. -/
theorem State.keeps_of_sides {s t : State} (host : t.hostSide = s.hostSide) (op : t.opSide = s.opSide) :
    s.keeps t ∧ t.txframe = s.txframe ∧ t.frameLen = s.frameLen := by
  simp only [State.hostSide_ext, State.opSide_ext] at host op
  simp [State.keeps, host, op]

/-- A frame that POLL has received is stored, and its type, class and length are the result (R295). -/
theorem State.receiveFrame_of_poll {u : State} (op : u.op = .poll) :
    u.receiveFrame =
      (u.setRx .frame).storeFrame.complete .ok u.typeByte (countOf u.taken)
        (decide (u.typeByte = u.params.codes.respDownlink)) := by
  rw [State.receiveFrame, op]
  rfl

theorem State.storeFrame_chanRx (u : State) : u.storeFrame.chanRx = u.chanRx := by
  rcases u.storeFrame_cases with ⟨-, stored⟩ | ⟨-, stored⟩ <;> rw [stored] <;> rfl

/-- Settles O31: the receive begins in the step of the CMD write, and the STORE step and the completion follow its
check. -/
theorem pollStoresAGoodFrame : Obligations.PollStoresAGoodFrame := by
  intro s code len hdr body rest f idle fits window scheduled frame holds parsed
  obtain ⟨three, -, bound⟩ := frame.lengths
  have length : (hdr ++ body).length = hdr.length + body.length := List.length_append
  have bytes : s.chanRx ≠ [] := List.ne_nil_of_length_pos (by simp [holds, three])
  have run := (s.polling_atHeader code len).run_receive window frame holds
  rcases (s.polling code len).collected_checkFrame rest frame with ⟨bad, -⟩ | ⟨f', good, type, checked⟩
  · cases bad.symm.trans parsed
  obtain rfl : f = f' := Option.some.inj (parsed.symm.trans good)
  rw [checked, ← length] at run
  have stored := State.storeFrame_slots (u := ((s.polling code len).collected hdr body rest).setRx .frame)
    type ((s.polling code len).collected_staged rest frame) (by omega)
  obtain ⟨keeps, txframe, frameLen⟩ := State.keeps_of_sides (s := s.polling code len)
    (((s.polling code len).collected hdr body rest).enter .rxCheck).receiveFrame_hostSide
    (((s.polling code len).collected hdr body rest).enter .rxCheck).receiveFrame_opSide
  have count : countOf ((s.polling code len).collected hdr body rest).taken = BitVec.ofNat 8 (hdr ++ body).length :=
    countOf_frameLength (by omega)
  rw [State.receiveFrame_of_poll rfl] at run keeps txframe frameLen
  rw [Nat.add_comm]
  refine ⟨_, (run_succ _ (step_poll idle fits window scheduled bytes)).trans run, ?_, rfl, rfl, ?_, ?_, keeps, txframe,
    frameLen, stored⟩
  · have shown : (((s.polling code len).collected hdr body rest).enter .rxCheck).typeByte = f.type := type
    rw [State.complete_result, State.storeFrame_op, shown, State.enter_taken, count]
    rfl
  · exact State.storeFrame_chanRx _
  · exact State.storeFrame_wake _

end Sys2Proof.Machine
end

section
/-! SUPPORT. The sleeps of WAIT_DL over a silent channel. -/

namespace Sys2Proof.Machine

/-- `s` at the begin of a sleep of WAIT_DL with budget `n`, after `j` sleeps: `j` units are spent and `1 + j` polls are
counted (R310). -/
def State.asleep (s : State) (code : Byte) (n j : Nat) (events : List Event) : State :=
  { s with
    done := false, op := .waitDl, code := code, len := BitVec.ofNat 8 n, phase := .pollSleep, timer := 1000#24
    pollsLeft := BitVec.ofNat 8 (n - j), polls := BitVec.ofNat 8 (1 + j)
    inputs := events, reply := some ⟨false, none⟩ }

section Sleeps

variable {s : State} {code : Byte} {n : Nat} {events : List Event}

/-- The CMD write begins the first sleep (R310, R313). -/
theorem step_waitDl (idle : s.phase = .idle) (some : 1 ≤ n) (fits : n < 256) (silent : s.chanRx = [])
    (scheduled : s.inputs = .write (encode (.waitDl code n)) :: events) :
    step s = .next (s.asleep code n 0 events) := by
  rw [step_exec scheduled (decodeAfterEncode _ (decide_eq_true fits))]
  exact (waitDlBegins (s.taking events).written code n idle fits).2.1 (by omega) silent

theorem State.asleep_waits (s : State) (code : Byte) (n j : Nat) (events : List Event) :
    (s.asleep code n j events).Waits := .inl rfl

/-- The last tick of a sleep wakes up the next poll, or ends the operation when it spends the last unit (R310). -/
theorem run_sleep (s : State) (code : Byte) (n j : Nat) (events : List Event) :
    Sys2Proof.core.run 1000 (s.asleep code n j (tickEvents 1000 ++ events)) =
      .next ((s.asleep code n j events).expired events).endSleep :=
  (s.asleep_waits code n j _).run_timer (show (1000#24 : Ticks) ≠ 0#24 by decide) rfl

theorem State.asleep_endSleep {j : Nat} (silent : s.chanRx = []) (fits : n < 256) (more : j + 1 < n) :
    ((s.asleep code n j events).expired events).endSleep = s.asleep code n (j + 1) events := by
  have spent : BitVec.ofNat 8 (n - j) - 1#8 = BitVec.ofNat 8 (n - (j + 1)) := by bv_omega
  have left : BitVec.ofNat 8 (n - (j + 1)) ≠ 0#8 := by bv_omega
  have counted : BitVec.ofNat 8 (1 + j) ≠ 255#8 := by bv_omega
  have counts : BitVec.ofNat 8 (1 + j) + 1#8 = BitVec.ofNat 8 (1 + (j + 1)) := by bv_omega
  have polls := (State.beginPoll_waitDl (s := ((s.asleep code n j events).expired events).spendBudget) rfl).1 silent
  rw [State.endSleep, polls]
  simp [State.spendBudget, State.expired, State.asleep, spent, left, State.pollAgainLater, State.countPoll, State.wait,
    Config.pollSleepTicks, counted, counts]

theorem State.asleep_endSleep_last {j : Nat} (last : j + 1 = n) :
    ((s.asleep code n j events).expired events).endSleep =
      ((s.asleep code n j events).woken events).complete .waitExhausted 0#8 (BitVec.ofNat 8 n) false := by
  have counted : BitVec.ofNat 8 (1 + j) = BitVec.ofNat 8 n := by rw [← last, Nat.add_comm]
  have spent : BitVec.ofNat 8 (n - j) - 1#8 = 0#8 := by rw [← last, Nat.add_sub_cancel_left]; rfl
  have left : ((s.asleep code n j events).expired events).spendBudget.pollsLeft = 0#8 := spent
  rw [State.endSleep, if_pos left]
  exact congrArg (State.complete _ .waitExhausted 0#8 · false) counted

/-- The first `j` sleeps of a longer budget (R310). -/
theorem run_sleeps (silent : s.chanRx = []) (fits : n < 256) {j : Nat} (below : j < n) :
    Sys2Proof.core.run (1000 * j) (s.asleep code n 0 (tickEvents (1000 * j) ++ events)) =
      .next (s.asleep code n j events) := by
  induction j generalizing events with
  | zero => rfl
  | succ j ih =>
    have split : tickEvents (1000 * (j + 1)) ++ events = tickEvents (1000 * j) ++ (tickEvents 1000 ++ events) := by
      rw [tickEvents_split (k := 1000 * j) (by omega), List.append_assoc,
        show 1000 * (j + 1) - 1000 * j = 1000 by omega]
    rw [split, Nat.mul_succ, run_add _ (ih (by omega)), run_sleep, State.asleep_endSleep silent fits below]

theorem State.asleep_ticked_zero (s : State) (code : Byte) (n j : Nat) (more events : List Event) :
    (s.asleep code n j more).ticked 0 events = s.asleep code n j events := by
  simp [State.ticked, State.asleep]

/-- After its CMD write and some ticks, fewer than its whole budget, WAIT_DL is in the sleep that they reach. -/
theorem run_waitDl (begins : step s = .next (s.asleep code n 0 (tickEvents (1000 * n) ++ events)))
    (silent : s.chanRx = []) (fits : n < 256) {k : Nat} (below : k < 1000 * n) :
    Sys2Proof.core.run (1 + k) s =
      .next ((s.asleep code n (k / 1000) []).ticked (k % 1000) (tickEvents (1000 * n - k) ++ events)) := by
  have sleeps : k / 1000 < n := Nat.div_lt_of_lt_mul below
  have whole : 1000 * (k / 1000) + k % 1000 = k := Nat.div_add_mod k 1000
  have split : tickEvents (1000 * n) ++ events =
      tickEvents (1000 * (k / 1000)) ++ (tickEvents (k % 1000) ++ (tickEvents (1000 * n - k) ++ events)) := by
    rw [tickEvents_split below.le, tickEvents_split (k := 1000 * (k / 1000)) (n := k) (by omega),
      show k - 1000 * (k / 1000) = k % 1000 by omega, List.append_assoc, List.append_assoc]
  have slept := run_sleeps (s := s) (code := code) silent fits sleeps
    (events := tickEvents (k % 1000) ++ (tickEvents (1000 * n - k) ++ events))
  have ticks := (s.asleep_waits code n (k / 1000) _).run_ticks (k % 1000)
    (events := tickEvents (1000 * n - k) ++ events) (Nat.mod_lt k (by decide)) rfl
  rw [← split] at slept
  rw [Nat.add_comm, run_succ k begins]
  calc Sys2Proof.core.run k (s.asleep code n 0 (tickEvents (1000 * n) ++ events))
    _ = Sys2Proof.core.run (1000 * (k / 1000) + k % 1000) (s.asleep code n 0 (tickEvents (1000 * n) ++ events)) := by
      rw [whole]
    _ = _ := (run_add _ slept).trans ticks

end Sleeps

/-- Settles O37: whole sleeps of 1000 ticks, within one of them its own ticks, and the end with the last one. -/
theorem waitDlExhaustsItsBudget : Obligations.WaitDlExhaustsItsBudget := by
  intro s code n rest idle some fits silent scheduled
  have begins := step_waitDl idle some fits silent scheduled
  refine ⟨fun k below => ⟨_, run_waitDl begins silent fits below, rfl, rfl, rfl, ?ticks, rfl, rfl⟩, ?ended⟩
  case ticks =>
    change 1000#24 - BitVec.ofNat 24 (k % 1000) = _
    bv_omega
  case ended =>
    obtain ⟨j, rfl⟩ : ∃ j, n = j + 1 := ⟨n - 1, by omega⟩
    have slept := run_waitDl begins silent fits (k := 1000 * j) (by omega)
    rw [Nat.mul_div_cancel_left j (by decide), Nat.mul_mod_right,
      show 1000 * (j + 1) - 1000 * j = 1000 by omega, State.asleep_ticked_zero] at slept
    have run := (run_add 1000 slept).trans (run_sleep s code (j + 1) j rest)
    rw [State.asleep_endSleep_last rfl, show 1 + 1000 * j + 1000 = 1 + 1000 * (j + 1) by omega] at run
    refine ⟨_, run, rfl, rfl, rfl, ?_, rfl, rfl, ?_, rfl, rfl, rfl, rfl, rfl, rfl⟩
    · change BitVec.ofNat 8 (j + 1 - j) - 1#8 = 0#8
      rw [Nat.add_sub_cancel_left]
      rfl
    · simp [State.keeps, State.woken, State.asleep]

end Sys2Proof.Machine
end

section
/-! SUPPORT. The wake-line bracket over a prompt channel, phase by phase (R220-R227), and SEND. -/

namespace Sys2Proof.Machine

/-! ### The phases of a bracket -/

/-- TXFRAME holds the frame `f` (R185). -/
structure State.HasFrame (s : State) (f : List Byte) : Prop where
  length : s.frameLen = BitVec.ofNat 7 f.length
  some : 0 < f.length
  fits : f.length ≤ 64
  bytes : ∀ i (below : i < f.length), s.byteAt .txframe i = f[i]

/-- `s` in the byte phase after `k` acceptances of the frame `f` (R222). -/
def State.sending (s : State) (f : List Byte) (k : Nat) (events : List Event) : State :=
  { s with phase := .txBytes, timer := 0#24, idx := BitVec.ofNat 7 k, chanTx := f.take k, inputs := events }

/-- `s` in the flush phase after `k` departures of the frame `f` (R223). -/
def State.flushing (s : State) (f : List Byte) (k : Nat) (events : List Event) : State :=
  { s with
    phase := .txFlush, timer := 0#24, idx := BitVec.ofNat 7 f.length, chanTx := f.drop k, wire := s.wire ++ f.take k
    inputs := events }

/-- `s` at the begin of the second settle delay, with the frame `f` on the wire (R224). -/
def State.settling (s : State) (f : List Byte) (events : List Event) : State :=
  { s with
    phase := .txSettle2, timer := 20#24, idx := BitVec.ofNat 7 f.length, chanTx := [], wire := s.wire ++ f
    inputs := events }

section Bracket

variable {s : State} {f : List Byte} {events : List Event}

/-- An acceptance takes the next byte of the frame, and after the last one the flush begins (R222, R223). -/
theorem State.HasFrame.step_accept (h : s.HasFrame f) {k : Nat} (below : k < f.length) :
    step (s.sending f k (.accept :: events)) =
      .next (if k + 1 < f.length then s.sending f (k + 1) events else s.flushing f 0 events) := by
  obtain ⟨length, -, fits, bytes⟩ := h
  have index : (BitVec.ofNat 7 k).toNat = k := toNat_frameLength (by omega)
  have data : (s.sending f k events).txData = f[k] := by
    rw [← bytes k below, State.txData, show (s.sending f k events).idx = BitVec.ofNat 7 k from rfl, index]
    rfl
  have ready : BitVec.ofNat 7 k < s.frameLen := by rw [length]; bv_omega
  have next : BitVec.ofNat 7 k + 1#7 = BitVec.ofNat 7 (k + 1) := by bv_omega
  have sent : f.take k ++ [f[k]] = f.take (k + 1) := List.take_append_getElem below
  rw [step_perform (s := s.sending f k (.accept :: events)) rfl rfl]
  change Host.Outcome.next (s.sending f k events).acceptByte = _
  have put : (s.sending f k events).putByte f[k] = s.sending f (k + 1) events := by
    simp [State.putByte, State.sending, sent, next]
  rw [State.acceptByte, data, if_pos (by simp [State.txValid, State.sending, ready]), put]
  have index : (s.sending f (k + 1) events).idx < (s.sending f k events).frameLen ↔ k + 1 < f.length := by
    change BitVec.ofNat 7 (k + 1) < s.frameLen ↔ _
    rw [length, BitVec.lt_def, toNat_frameLength (by omega), toNat_frameLength fits]
  by_cases more : k + 1 < f.length
  · rw [if_pos (index.mpr more), if_pos more]
  · have last : k + 1 = f.length := by omega
    rw [if_neg (mt index.mp more), if_neg more]
    simp [State.enter, State.sending, State.flushing, last]

/-- As many acceptances as the frame has bytes put it into the transmitter. -/
theorem State.HasFrame.run_accepts (h : s.HasFrame f) (m : Nat) {k : Nat} (left : k + (m + 1) = f.length) :
    Sys2Proof.core.run (m + 1) (s.sending f k (List.replicate (m + 1) .accept ++ events)) =
      .next (s.flushing f 0 events) := by
  induction m generalizing k with
  | zero =>
    have first := h.step_accept (events := events) (k := k) (by omega)
    rw [if_neg (by omega)] at first
    exact run_succ 0 first
  | succ m ih =>
    have first := h.step_accept (events := List.replicate (m + 1) .accept ++ events) (k := k) (by omega)
    rw [if_pos (by omega)] at first
    exact (run_succ (m + 1) first).trans (ih (by omega))

/-- As many departures put the frame on the wire (R84). -/
theorem run_departures (s : State) (f : List Byte) (events : List Event) (m : Nat) {k : Nat} (left : k + m = f.length) :
    Sys2Proof.core.run m (s.flushing f k (List.replicate m .sent ++ events)) =
      .next (s.flushing f f.length events) := by
  induction m generalizing k with
  | zero =>
    obtain rfl : k = f.length := left
    rfl
  | succ m ih =>
    have below : k < f.length := by omega
    have first : step (s.flushing f k (.sent :: (List.replicate m .sent ++ events))) =
        .next (s.flushing f (k + 1) (List.replicate m .sent ++ events)) := by
      rw [step_perform (s := s.flushing f k _) rfl rfl]
      simp only [State.perform, State.sendOldest, State.taking, State.flushing, List.drop_eq_getElem_cons below,
        List.append_assoc, List.take_append_getElem below]
    exact (run_succ m first).trans (ih (by omega))

/-- The core's step in TX_FLUSH: the second settle delay begins when nothing is left to send (R223, R224). -/
theorem step_flush (flush : s.phase = .txFlush) (scheduled : s.inputs = .core :: events) :
    step s = .next (if s.chanTx = [] then { s with phase := .txSettle2, timer := 20#24, inputs := events }
      else { s with inputs := events }) := by
  rw [step_perform scheduled rfl]
  change Host.Outcome.next (s.taking events).coreStep = _
  rw [State.coreStep, State.taking_phase, flush]
  cases left : s.chanTx <;>
    simp [State.drained, State.txIdle, left, State.wait, State.taking, Config.settleTicks, flush]

/-! ### The run of a bracket -/

/-- `s` at the begin of a bracket for the frame `f` over an empty transmitter (R220, R221). -/
structure State.BeginsBracket (s : State) (f : List Byte) : Prop where
  frame : s.HasFrame f
  phase : s.phase = .txSettle1
  timer : s.timer = 20#24
  chanTx : s.chanTx = []

theorem bracketEvents_eq (n : Nat) (events : List Event) :
    bracketEvents n ++ events =
      tickEvents 20 ++
        (List.replicate n .accept ++ (List.replicate n .sent ++ (.core :: (tickEvents 20 ++ events)))) := by
  simp [bracketEvents]

theorem State.BeginsBracket.waits (h : s.BeginsBracket f) : s.Waits := .inl (by rw [h.phase]; rfl)

theorem State.settling_waits (s : State) (f : List Byte) (events : List Event) : (s.settling f events).Waits := .inl rfl

/-- Within the first settle delay (R237). -/
theorem State.BeginsBracket.run_within_settle1 (h : s.BeginsBracket f) {k : Nat} (below : k < 20)
    (scheduled : s.inputs = tickEvents 20 ++ events) :
    Sys2Proof.core.run k s = .next (s.ticked k (tickEvents (20 - k) ++ events)) := by
  rw [tickEvents_split below.le, List.append_assoc] at scheduled
  exact h.waits.run_ticks k (by rw [h.timer]; exact below) scheduled

/-- The whole first settle delay (R220, R237). -/
theorem State.BeginsBracket.run_settle1 (h : s.BeginsBracket f) (scheduled : s.inputs = tickEvents 20 ++ events) :
    Sys2Proof.core.run 20 s = .next (s.sending f 0 events) := by
  have ticks : s.timer.toNat = 20 := by rw [h.timer]; rfl
  have run := h.waits.run_timer (events := events) (by rw [h.timer]; decide) (by rw [ticks, scheduled])
  have some : s.frameLen ≠ 0#7 := by
    obtain ⟨length, some, fits, -⟩ := h.frame
    rw [length]
    bv_omega
  rw [ticks] at run
  rw [run, State.timedOut, show (s.expired events).phase = .txSettle1 from h.phase]
  simp [State.beginBytes, State.expired, State.startBytes, State.sending, some, h.chanTx]

/-- The acceptances after it (R222). -/
theorem State.BeginsBracket.run_bytes (h : s.BeginsBracket f)
    (scheduled : s.inputs = tickEvents 20 ++ (List.replicate f.length .accept ++ events)) :
    Sys2Proof.core.run (20 + f.length) s = .next (s.flushing f 0 events) := by
  obtain ⟨m, length⟩ : ∃ m, f.length = m + 1 := Nat.exists_eq_succ_of_ne_zero h.frame.some.ne'
  rw [run_add _ (h.run_settle1 scheduled), length]
  exact h.frame.run_accepts m (by omega)

/-- The departures and the flush after them (R223, R224). -/
theorem State.BeginsBracket.run_flush (h : s.BeginsBracket f) (scheduled : s.inputs =
      tickEvents 20 ++ (List.replicate f.length .accept ++ (List.replicate f.length .sent ++ (.core :: events)))) :
    Sys2Proof.core.run (20 + f.length + f.length + 1) s = .next (s.settling f events) := by
  have flushed : step (s.flushing f f.length (.core :: events)) = .next (s.settling f events) := by
    rw [step_flush (s := s.flushing f f.length (.core :: events)) rfl rfl]
    simp [State.flushing, State.settling]
  rw [Nat.add_assoc, run_add _ (h.run_bytes scheduled), run_add _ (run_departures s f _ _ (Nat.zero_add _)),
    run_succ 0 flushed]
  rfl

/-- The whole bracket, up to what the operation does at its end (R225). -/
theorem State.BeginsBracket.run_bracket (h : s.BeginsBracket f)
    (scheduled : s.inputs = bracketEvents f.length ++ events) :
    Sys2Proof.core.run (bracketEvents f.length).length s =
      .next ((s.settling f events).expired events).endTransmit := by
  have length : (bracketEvents f.length).length = 20 + f.length + f.length + 1 + 20 := by
    simp [bracketEvents, tickEvents]
    omega
  rw [length, run_add 20 (h.run_flush (scheduled.trans (bracketEvents_eq _ _)))]
  exact (s.settling_waits f _).run_timer (show (20#24 : Ticks) ≠ 0#24 by decide) rfl

/-- Within the second settle delay (R237). -/
theorem State.BeginsBracket.run_settle2 (h : s.BeginsBracket f) {k : Nat} (below : k < 20)
    (scheduled : s.inputs = bracketEvents f.length ++ events) :
    Sys2Proof.core.run (20 + f.length + f.length + 1 + k) s =
      .next ((s.settling f []).ticked k (tickEvents (20 - k) ++ events)) := by
  have split : tickEvents 20 ++ events = tickEvents k ++ (tickEvents (20 - k) ++ events) := by
    rw [tickEvents_split below.le, List.append_assoc]
  rw [bracketEvents_eq, split] at scheduled
  rw [run_add k (h.run_flush scheduled)]
  exact (s.settling_waits f _).run_ticks k below rfl

end Bracket

/-! ### SEND -/

/-- After the BUILD step TXFRAME holds the frame (R185). -/
theorem State.framed_hasFrame (s : State) (op : Op) {code : Byte} {len : Nat}
    (legal : payloadLegal (classify s.params.codes code) len = true) :
    (s.framed op code len).HasFrame (encodeFrame s.params.codes code (s.bytes .txbuf 0 len)) := by
  have bound := payloadLegal_le legal
  have length : (encodeFrame s.params.codes code (s.bytes .txbuf 0 len)).length = len + 6 := by simp
  refine ⟨?_, by omega, by omega, fun i below => ?_⟩
  · rw [length, s.framed_frameLen]
  · rw [State.byteAt, State.buffer, State.framed_txframe_read op legal, if_pos (by omega),
      List.getElem?_eq_getElem below]
    rfl

theorem State.HasFrame.beginsBracket {s : State} {f : List Byte} (h : s.HasFrame f) (silent : s.chanTx = []) :
    s.beginTransmit.BeginsBracket f :=
  ⟨⟨h.length, h.some, h.fits, h.bytes⟩, rfl, rfl, silent⟩

/-- `u` is where the CMD write of an operation that transmits the frame `f` leads from `s`: the begin of a bracket, with
the channel, the slots and the host's state as they were (R112, R185, R220). -/
structure State.Launches (s u : State) (op : Op) (f : List Byte) (events : List Event) : Prop where
  begins : u.BeginsBracket f
  op : u.op = op
  wake : u.wake = false
  inputs : u.inputs = events
  chanRx : u.chanRx = s.chanRx
  wire : u.wire = s.wire
  keeps : s.keeps u
  slots : u.slotSide = s.slotSide

/-- The CMD write of a legal SEND builds the frame and begins the bracket (R270). -/
theorem step_send {s : State} {code : Byte} {len : Nat} {events : List Event} (idle : s.phase = .idle)
    (fits : len < 256) (legal : payloadLegal (classify s.params.codes code) len = true) (silent : s.chanTx = [])
    (scheduled : s.inputs = .write (encode (.send code len)) :: events) :
    ∃ u, step s = .next u ∧
      s.Launches u .send (encodeFrame s.params.codes code (s.bytes .txbuf 0 len)) events := by
  have frame := State.framed_hasFrame (s.taking events).written .send legal
  refine ⟨((s.taking events).written.framed .send code len).beginTransmit, ?_,
    frame.beginsBracket silent, rfl, rfl, rfl, rfl, rfl, ?_, rfl⟩
  · rw [step_exec scheduled (decodeAfterEncode _ (decide_eq_true fits))]
    exact congrArg Host.Outcome.next
      (State.issue_buildThen (s := (s.taking events).written) .send _ idle fits legal)
  · exact ⟨rfl, rfl, rfl, rfl, rfl, rfl, rfl, rfl, rfl, rfl, rfl, rfl⟩

/-- With the bracket SEND is complete (R270). -/
theorem State.endTransmit_of_send {s : State} (op : s.op = .send) :
    s.endTransmit = { s with
      wake := true, phase := .idle, done := true, result := ⟨.ok, false, 0#8, 1#8, 0x02#8⟩ } := by
  simp [State.endTransmit, State.complete, State.finish, State.setWake, op, Op.byte]

theorem ticks_left {k : Nat} (below : k < 20) : 20#24 - BitVec.ofNat 24 k = BitVec.ofNat 24 (20 - k) := by bv_omega

/-- Settles O27: the bracket phase by phase, then the step in TX_FLUSH, and the steps that cannot leave a phase. -/
theorem sendTransmitsTheFrameOnce : Obligations.SendTransmitsTheFrameOnce := by
  refine ⟨fun s code len rest idle fits silent legal scheduled => ?run, fun s rest => step_flush,
    fun s t stepped live held => ?held⟩
  case run =>
    obtain ⟨u, stepped, launched⟩ := step_send idle fits legal silent scheduled
    obtain ⟨begins, op, wake, inputs, chanRx, wire, keeps, slots⟩ := launched
    have first : Sys2Proof.core.run 1 s = .next u := run_succ 0 stepped
    have length : (encodeFrame s.params.codes code (s.bytes .txbuf 0 len)).length = len + 6 := by simp
    generalize encodeFrame s.params.codes code (s.bytes .txbuf 0 len) = f at begins length ⊢
    change u.inputs = bracketEvents (len + 6) ++ rest at inputs
    rw [← length] at inputs ⊢
    have settles := inputs.trans (bracketEvents_eq _ _)
    have after {m n : Nat} {t : State} (run : Sys2Proof.core.run n u = .next t) (count : m = 1 + n) :
        Sys2Proof.core.run m s = .next t := by rw [count, run_add n first, run]
    refine ⟨fun k below => ⟨_, after (begins.run_within_settle1 below settles) rfl, ?settle1⟩,
      ⟨_, after (begins.run_settle1 settles) rfl, ?bytes⟩,
      ⟨_, after (begins.run_bytes settles) (by omega), ?flush⟩,
      fun k below => ⟨_, after (begins.run_settle2 below inputs) (by omega), ?settle2⟩,
      _, after (begins.run_bracket inputs) rfl, ?ended⟩
    case settle1 =>
      exact ⟨begins.phase, by rw [State.ticked, begins.timer, ticks_left below], wake, wire, begins.chanTx⟩
    case bytes => exact ⟨rfl, rfl, wake, wire, rfl⟩
    case flush => exact ⟨rfl, wake, (List.append_nil _).trans wire, rfl⟩
    case settle2 => exact ⟨rfl, ticks_left below, wake, congrArg (· ++ f) wire, rfl⟩
    case ended =>
      rw [State.endTransmit_of_send (s := (u.settling f rest).expired rest) op]
      obtain ⟨dlslot, dlLen, respslot, respLen⟩ := (State.slotSide_ext _ _).mp slots
      exact ⟨rfl, rfl, rfl, rfl, congrArg (· ++ f) wire, rfl, chanRx, rfl, keeps, dlslot, dlLen, respslot, respLen⟩
  case held =>
    have phases : s.phase = .txBytes ∨ s.phase = .txFlush := held.imp And.left And.left
    have running : s.phase ≠ .idle := by rcases phases with phase | phase <;> simp [phase]
    cases step_of_busy stepped (s.busy_iff.mpr running) with
    | ticks =>
      rw [State.onTick_of_not_counting (by rcases phases with phase | phase <;> simp [phase, Phase.counting])]
      exact ⟨rfl, rfl⟩
    | core =>
      rcases held with ⟨phase, -⟩ | ⟨phase, left⟩
      · simp [State.coreStep, phase]
      · simp [State.coreStep, State.drained, State.txIdle, phase, left]
    | accepts event =>
      rcases held with ⟨-, other⟩ | ⟨phase, -⟩
      · exact absurd event other
      · simp [State.acceptByte, State.txValid, phase]
    | resets event => exact absurd event live
    | others event same =>
      simp only [State.clock, Prod.mk.injEq] at same
      exact ⟨same.2.1, same.2.2.2.2⟩

end Sys2Proof.Machine
end

section
/-! SUPPORT. The attempts of SEND_ACK over a silent channel (R260-R265). -/

namespace Sys2Proof.Machine

/-- The CMD write of a legal SEND_ACK builds the frame and begins the bracket of attempt 1 (R260). -/
theorem step_sendAck {s : State} {code : Byte} {len : Nat} {events : List Event} (idle : s.phase = .idle)
    (fits : len < 256) (legal : payloadLegal (classify s.params.codes code) len = true) (silent : s.chanTx = [])
    (attempts : s.maxAttempts ≠ 0#8) (scheduled : s.inputs = .write (encode (.sendAck code len)) :: events) :
    ∃ u, step s = .next u ∧
      s.Launches u .sendAck (encodeFrame s.params.codes code (s.bytes .txbuf 0 len)) events ∧ u.attempt = 1#8 := by
  obtain ⟨length, some, fit, bytes⟩ := State.framed_hasFrame (s.taking events).written .sendAck legal
  refine ⟨(((s.taking events).written.framed .sendAck code len).setAttempt 1#8).beginTransmit, ?_,
    ⟨State.HasFrame.beginsBracket ⟨length, some, fit, bytes⟩ silent, rfl, rfl, rfl, rfl, rfl, ?_, rfl⟩, rfl⟩
  · have issued := State.issue_buildThen (s := (s.taking events).written) .sendAck State.firstAttempt idle fits legal
    rw [step_exec scheduled (decodeAfterEncode _ (decide_eq_true fits))]
    refine congrArg Host.Outcome.next (issued.trans ?_)
    exact if_neg attempts
  · exact ⟨rfl, rfl, rfl, rfl, rfl, rfl, rfl, rfl, rfl, rfl, rfl, rfl⟩

section Attempts

variable {s : State} {f : List Byte} {events : List Event}

/-- `s` at the end of a receive that nothing has answered, before what the failed attempt leads to: the line is high, no
byte is taken and the window is over (R225, R231, R235). -/
def State.unanswered (s : State) (need : Len) (events : List Event) : State :=
  { s with
    phase := .rxHdr, timer := 0#24, wake := true, taken := 0#7, need := need, rx := .truncated, inputs := events }

theorem State.receiveFailed_of_sendAck (op : s.op = .sendAck) (o : RxOutcome) :
    s.receiveFailed o = (s.setRx o).attemptFailed := by
  rw [State.receiveFailed, op]

/-- `s` at the begin of the receive of an attempt, with the line high (R225, R234). -/
def State.listening (s : State) : State :=
  { s with phase := .rxHdr, timer := s.ackTimeout, wake := true, taken := 0#7, need := 3#7 }

/-- The end of the bracket of an attempt, with a window and without one (R233, R262). -/
theorem State.endTransmit_of_sendAck (op : s.op = .sendAck) (ended : s.timer = 0#24) :
    (s.ackTimeout ≠ 0#24 → s.endTransmit = s.listening) ∧
    (s.ackTimeout = 0#24 → s.endTransmit = (s.unanswered s.need s.inputs).attemptFailed) := by
  have begins : s.endTransmit = (s.setWake true).beginReceive s.ackTimeout := by rw [State.endTransmit, op]
  rw [begins]
  refine ⟨fun window => ?_, fun zero => ?_⟩
  · rw [State.beginReceive, if_neg window]
    rfl
  · rw [State.beginReceive, if_pos zero, State.receiveFailed_of_sendAck (s := (s.setWake true).clearStage) op]
    simp only [State.setWake, State.clearStage, State.setRx, State.unanswered, ended]

/-- The receive of an attempt ends with a whole window of ticks without a byte, and with no tick when the window is zero
(R233, R237, R264). -/
theorem run_silentWindow (op : s.op = .sendAck) (silent : s.chanRx = []) (ended : s.timer = 0#24)
    (scheduled : s.inputs = tickEvents s.ackTimeout.toNat ++ events) :
    ∃ need, Sys2Proof.core.run s.ackTimeout.toNat s.endTransmit = .next (s.unanswered need events).attemptFailed := by
  obtain ⟨listens, fails⟩ := State.endTransmit_of_sendAck op ended
  by_cases zero : s.ackTimeout = 0#24
  · have none : s.inputs = events := by rw [scheduled, zero]; rfl
    refine ⟨s.need, ?_⟩
    rw [fails zero, congrArg BitVec.toNat zero, none]
    rfl
  · have waits : s.listening.Waits := .inr ⟨rfl, by simp [State.listening], silent⟩
    have run := waits.run_timer (events := events) zero scheduled
    have silence : (s.listening.expired events).timedOut = (s.unanswered 3#7 events).attemptFailed := by
      rw [State.timedOut_of_receiving rfl, State.receiveFailed_of_sendAck (s := s.listening.expired events) op]
      rfl
    rw [silence] at run
    exact ⟨3#7, by rw [listens zero]; exact run⟩

/-- A failed attempt that is not the last leads, after the delay, to the bracket of the next one (R263). -/
theorem run_retry (left : s.attempt < s.maxAttempts) (scheduled : s.inputs = tickEvents s.retryDelay.toNat ++ events) :
    Sys2Proof.core.run s.retryDelay.toNat s.attemptFailed =
      .next (s.taking events).retry := by
  rcases s.attemptFailed_cases with ⟨-, none, next⟩ | ⟨-, some, waits⟩ | ⟨last, -⟩
  · have now : s.inputs = events := by rw [scheduled, none]; rfl
    have zero : s.retryDelay.toNat = 0 := congrArg BitVec.toNat none
    rw [next, zero, ← now]
    rfl
  · have delay : (s.wait .retryWait s.retryDelay).Waits := .inl rfl
    rw [waits]
    exact delay.run_timer (events := events) some scheduled
  · exact absurd left last

/-- The last failed attempt completes NO_ACK (R265). -/
theorem State.attemptFailed_last (op : s.op = .sendAck) (last : s.attempt = s.maxAttempts) :
    s.attemptFailed = { s with
      attempt := s.attempt + 1#8, phase := .idle, done := true
      result := ⟨.noAck, false, 0#8, s.maxAttempts, 0x03#8⟩ } := by
  have none : ¬ s.attempt < s.maxAttempts := by rw [last]; exact BitVec.lt_irrefl _
  rcases s.attemptFailed_cases with ⟨left, -⟩ | ⟨left, -⟩ | ⟨-, ends⟩
  · exact absurd left none
  · exact absurd left none
  · rw [ends]
    simp [State.nextAttempt, State.setAttempt, State.complete, State.finish, op, Op.byte]

/-- One attempt: the bracket and a window without a byte (R262). -/
theorem State.BeginsBracket.run_attempt (h : s.BeginsBracket f) (op : s.op = .sendAck) (silent : s.chanRx = [])
    (scheduled : s.inputs = bracketEvents f.length ++ (tickEvents s.ackTimeout.toNat ++ events)) :
    ∃ need, Sys2Proof.core.run ((bracketEvents f.length).length + s.ackTimeout.toNat) s =
      .next ((s.settling f []).unanswered need events).attemptFailed := by
  have transmitted := h.run_bracket scheduled
  obtain ⟨need, window⟩ := run_silentWindow (events := events)
    (s := (s.settling f []).expired (tickEvents s.ackTimeout.toNat ++ events)) op silent rfl rfl
  exact ⟨need, (run_add _ transmitted).trans window⟩

/-- `s` at the begin of the next attempt after one with the frame `f` that nothing has answered (R262, R263). -/
def State.retried (s : State) (f : List Byte) (need : Len) (events : List Event) : State :=
  { s with
    phase := .txSettle1, timer := 20#24, wake := false, attempt := s.attempt + 1#8, taken := 0#7, need := need
    rx := .truncated, idx := BitVec.ofNat 7 f.length, chanTx := [], wire := s.wire ++ f, inputs := events }

/-- An attempt that is not the last, and the delay behind it. -/
theorem State.BeginsBracket.run_retried (h : s.BeginsBracket f) (op : s.op = .sendAck) (silent : s.chanRx = [])
    (more : s.attempt < s.maxAttempts) (scheduled : s.inputs =
      bracketEvents f.length ++ (tickEvents s.ackTimeout.toNat ++ (tickEvents s.retryDelay.toNat ++ events))) :
    ∃ need, Sys2Proof.core.run ((bracketEvents f.length).length + s.ackTimeout.toNat + s.retryDelay.toNat) s =
      .next (s.retried f need events) := by
  obtain ⟨need, failed⟩ := h.run_attempt op silent scheduled
  have delayed := run_retry (s := (s.settling f []).unanswered need (tickEvents s.retryDelay.toNat ++ events)) more rfl
  have retried : (((s.settling f []).unanswered need (tickEvents s.retryDelay.toNat ++ events)).taking events).retry =
      s.retried f need events := by
    simp only [State.retry, State.beginTransmit, State.wait, State.setWake, State.nextAttempt, State.setAttempt,
      State.taking, State.unanswered, State.settling, State.retried, Config.settleTicks]
  exact ⟨need, (run_add _ failed).trans (delayed.trans (congrArg _ retried))⟩

/-- Every attempt from attempt `s.attempt` on, over a silent channel, each with the frame `f` (R260, R268). -/
theorem State.BeginsBracket.run_silentAttempts {k : Nat} (h : s.BeginsBracket f) (op : s.op = .sendAck)
    (silent : s.chanRx = []) (left : s.attempt.toNat + k = s.maxAttempts.toNat)
    (scheduled : s.inputs =
      silentAttempts f.length s.ackTimeout.toNat s.retryDelay.toNat (k + 1) ++ events) :
    ∃ t, Sys2Proof.core.run (silentAttempts f.length s.ackTimeout.toNat s.retryDelay.toNat (k + 1)).length s = .next t ∧
      t.result = ⟨.noAck, false, 0#8, s.maxAttempts, 0x03#8⟩ ∧ t.done = true ∧ t.phase = .idle ∧ t.wake = true ∧
      t.wire = s.wire ++ (List.replicate (k + 1) f).flatten ∧ t.inputs = events ∧ s.keepsFrames t := by
  induction k generalizing s with
  | zero =>
    have attempt : s.attempt = s.maxAttempts := BitVec.eq_of_toNat_eq left
    rw [silentAttempts, List.append_assoc] at scheduled
    obtain ⟨need, run⟩ := h.run_attempt op silent scheduled
    rw [State.attemptFailed_last (s := (s.settling f []).unanswered need events) op attempt] at run
    have length : (silentAttempts f.length s.ackTimeout.toNat s.retryDelay.toNat 1).length =
        (bracketEvents f.length).length + s.ackTimeout.toNat := by simp [silentAttempts, tickEvents]
    refine ⟨_, (congrArg (Sys2Proof.core.run · s) length).trans run, rfl, rfl, rfl, rfl, ?_, rfl, ?_⟩
    · simp [State.unanswered, State.settling]
    · simp [State.keepsFrames, State.keeps, State.unanswered, State.settling]
  | succ k ih =>
    have more : s.attempt < s.maxAttempts := by rw [BitVec.lt_def]; omega
    rw [silentAttempts, List.append_assoc, List.append_assoc, List.append_assoc] at scheduled
    obtain ⟨need, retried⟩ := h.run_retried op silent more scheduled
    have next : (s.retried f need (silentAttempts f.length s.ackTimeout.toNat s.retryDelay.toNat (k + 1) ++
        events)).BeginsBracket f := ⟨⟨h.frame.length, h.frame.some, h.frame.fits, h.frame.bytes⟩, rfl, rfl, rfl⟩
    have attempt : (s.attempt + 1#8).toNat = s.attempt.toNat + 1 := by bv_omega
    have count : (s.attempt + 1#8).toNat + k = s.maxAttempts.toNat := by omega
    obtain ⟨t, rest, result, done, idle, wake, wire, inputs, keeps⟩ := ih next op silent count rfl
    have length : (silentAttempts f.length s.ackTimeout.toNat s.retryDelay.toNat (k + 2)).length =
        (bracketEvents f.length).length + s.ackTimeout.toNat + s.retryDelay.toNat +
          (silentAttempts f.length s.ackTimeout.toNat s.retryDelay.toNat (k + 1)).length := by
      simp [silentAttempts, tickEvents, Nat.add_assoc]
    refine ⟨t, ?_, result, done, idle, wake, ?_, inputs, keeps⟩
    · rw [length, run_add _ retried]
      exact rest
    · rw [wire, List.replicate_succ (n := k + 1), List.flatten_cons, ← List.append_assoc]
      rfl

end Attempts

theorem State.keeps.trans {s t u : State} (first : s.keeps t) (second : t.keeps u) : s.keeps u := by
  simp only [State.keeps] at first second ⊢
  simp only [second, first, and_self]

/-- Settles O28: the CMD write begins attempt 1, and all the attempts follow. -/
theorem silentChannelExhaustsTheAttempts : Obligations.SilentChannelExhaustsTheAttempts := by
  intro s code len rest idle fits drained silent attempts legal scheduled
  obtain ⟨k, count⟩ := toNat_eq_succ attempts
  obtain ⟨u, stepped, launched, first⟩ := step_sendAck idle fits legal drained attempts scheduled
  have length : (encodeFrame s.params.codes code (s.bytes .txbuf 0 len)).length = len + 6 := by simp
  generalize encodeFrame s.params.codes code (s.bytes .txbuf 0 len) = f at launched length ⊢
  obtain ⟨begins, op, -, inputs, chanRx, wire, keeps, slots⟩ := launched
  have ⟨_, _, ackTimeout, retryDelay, maxAttempts, _⟩ := keeps
  change u.inputs = silentAttempts (len + 6) _ _ s.maxAttempts.toNat ++ rest at inputs
  rw [← length, ← ackTimeout, ← retryDelay, count] at inputs
  obtain ⟨t, run, result, done, ended, wake, sent, left, frames⟩ := begins.run_silentAttempts op (chanRx.trans silent)
    (by rw [first, maxAttempts, count, Nat.add_comm]; rfl) inputs
  obtain ⟨dlslot, dlLen, respslot, respLen⟩ := (State.slotSide_ext _ _).mp slots
  have all : silentAttempts (len + 6) s.ackTimeout.toNat s.retryDelay.toNat s.maxAttempts.toNat =
      silentAttempts f.length u.ackTimeout.toNat u.retryDelay.toNat (k + 1) := by
    rw [length, ackTimeout, retryDelay, count]
  refine ⟨t, ?_, ?_, done, ended, wake, ?_, left, ?_⟩
  · rw [all, run_add _ (run_succ 0 stepped)]
    exact run
  · rw [result, maxAttempts]
  · rw [sent, wire, count]
  · rw [← dlslot, ← dlLen, ← respslot, ← respLen]
    obtain ⟨kept, -, -, slots⟩ := frames
    exact ⟨keeps.trans kept, slots⟩

end Sys2Proof.Machine
end

section
/-! SUPPORT. SEND_ACK of an idle block with no attempt allowed (R266). -/

namespace Sys2Proof.Machine

/-- A legal SEND_ACK of an idle block builds its frame and goes on to the first attempt (R260). -/
theorem execSendAck_idle {s : State} {code : Byte} {len : Nat} (idle : s.phase = .idle) (fits : len < 256)
    (legal : payloadLegal (classify s.params.codes code) len = true) :
    exec (.sendAck code len) s = .next (s.framed .sendAck code len).firstAttempt :=
  congrArg Host.Outcome.next (State.issue_buildThen .sendAck State.firstAttempt idle fits legal)

/-- With MAX_ATTEMPTS = 0 the first attempt is the completion step: NO_ACK with COUNT 0, and no bracket begins (R266). -/
theorem State.firstAttempt_of_no_attempts {s : State} (op : s.op = .sendAck) (none : s.maxAttempts = 0#8) :
    s.firstAttempt =
      { s with attempt := 1#8, phase := .idle, done := true, result := ⟨.noAck, false, 0#8, 0#8, 0x03#8⟩ } := by
  rcases s.firstAttempt_cases with ⟨-, completes⟩ | ⟨some, -⟩
  · simp [completes, State.complete, State.finish, State.setAttempt, op, none, Op.byte]
  · exact absurd none some

/-- Settles O26: the completion step follows the BUILD step, and the phase is IDLE again. -/
theorem zeroAttemptsIsNoAck : Obligations.ZeroAttemptsIsNoAck := by
  intro s code len idle fits none legal
  refine ⟨(s.framed .sendAck code len).txframe, ?_, State.framed_txframe_read .sendAck legal⟩
  have completes := State.firstAttempt_of_no_attempts (s := s.framed .sendAck code len) rfl none
  rw [execSendAck_idle idle fits legal, completes, s.framed_eq .sendAck code len, idle]

end Sys2Proof.Machine
end

section
/-! SUPPORT. A frame that WAIT_DL receives: the STORE step, the count of its poll, and the end or the next poll
(R293, R310, R312). -/

namespace Sys2Proof.Machine

/-! ### The count of polls -/

/-- Counting `j` polls and then `k` more of them counts `j + k`, the saturation at 255 included (R310). -/
theorem State.pollsAfter_add {s u : State} {j : Nat} (counted : u.polls = s.pollsAfter j) (k : Nat) :
    u.pollsAfter k = s.pollsAfter (j + k) := by
  have below : min (s.polls.toNat + j) 255 < 2 ^ 8 := by omega
  rw [State.pollsAfter, counted, State.pollsAfter, State.pollsAfter, BitVec.toNat_ofNat, Nat.mod_eq_of_lt below]
  congr 1
  omega

/-! ### The frame stored and its poll counted -/

/-- `s` after the STORE step of the frame it has received in WAIT_DL, with the poll counted (R293, R310). -/
def State.storedPoll (s : State) : State := (s.setRx .frame).storeFrame.countPoll

section Stored

variable {s u : State}

/-- The STORE step moves neither the count of polls nor what a completion writes (R293). -/
theorem State.storeFrame_counts (u : State) :
    u.storeFrame.polls = u.polls ∧ u.storeFrame.result = u.result ∧ u.storeFrame.done = u.done := by
  rcases u.storeFrame_cases with ⟨-, stored⟩ | ⟨-, stored⟩ <;> rw [stored] <;> exact ⟨rfl, rfl, rfl⟩

/-- A downlink ends WAIT_DL with the polls counted so far, its own included; after any other frame the next poll begins
at once (R310, R312). -/
theorem State.receiveFrame_of_waitDl (op : u.op = .waitDl) :
    (u.typeByte = u.params.codes.respDownlink →
      u.receiveFrame = u.storedPoll.complete .ok u.typeByte u.countPoll.polls true) ∧
    (u.typeByte ≠ u.params.codes.respDownlink → u.receiveFrame = u.storedPoll.beginPoll) := by
  refine ⟨fun downlink => ?_, fun other => ?_⟩
  · simp [State.receiveFrame, State.storedPoll, State.isDownlink, Codes.response, op, downlink]
  · simp [State.receiveFrame, State.storedPoll, State.isDownlink, Codes.response, op, other]

/-- `v` is `s` after its received frame went to a slot: what WAIT_DL goes on from has only the poll counted (R293,
R312). -/
structure State.StoresPoll (s v : State) : Prop where
  op : v.op = .waitDl
  result : v.result = s.result
  done : v.done = s.done
  wake : v.wake = s.wake
  pollsLeft : v.pollsLeft = s.pollsLeft
  polls : v.polls = s.pollsAfter 1
  pollTimeout : v.pollTimeout = s.pollTimeout

theorem State.storedPoll_chanRx (u : State) : u.storedPoll.chanRx = u.chanRx := State.storeFrame_chanRx _

theorem State.OnlyReceives.storedPoll (h : s.OnlyReceives u) (op : s.op = .waitDl) : s.StoresPoll u.storedPoll := by
  obtain ⟨polls, result, done⟩ := (u.setRx .frame).storeFrame_counts
  have counted : (u.setRx .frame).storeFrame.pollsAfter 1 = s.pollsAfter 1 := by
    rw [State.pollsAfter, polls, State.setRx_polls, h.polls, State.pollsAfter]
  have host : u.storedPoll.hostSide = u.hostSide := (u.setRx .frame).storeFrame_hostSide
  have same : u.storedPoll.opSide = u.opSide := (u.setRx .frame).storeFrame_opSide
  obtain ⟨⟨-, -, -, -, -, pollTimeout, -⟩, -⟩ := h.frames
  exact {
    op := (congrArg OpSide.op same).trans (h.op.trans op)
    result := result.trans h.result
    done := done.trans h.done
    wake := (State.storeFrame_wake _).trans h.wake
    pollsLeft := (State.storeFrame_pollsLeft _).trans h.pollsLeft
    polls := (State.countPoll_eq_pollsAfter _).trans counted
    pollTimeout := (congrArg HostSide.pollTimeout host).trans pollTimeout }

/-! ### The next poll -/

/-- With a window the next poll takes nothing and completes nothing: it is a sleep over an empty channel, counted, and a
new header stage over received bytes (R230, R291, R310). -/
theorem State.StoresPoll.beginPoll {v : State} (h : s.StoresPoll v) (window : s.pollTimeout ≠ 0#24) :
    v.beginPoll.chanRx = v.chanRx ∧ v.beginPoll.pollsLeft = s.pollsLeft ∧ v.beginPoll.wake = s.wake ∧
    v.beginPoll.result = s.result ∧ v.beginPoll.done = s.done ∧
    (if v.chanRx = [] then
      v.beginPoll.phase = .pollSleep ∧ v.beginPoll.timer = 1000#24 ∧ v.beginPoll.polls = s.pollsAfter 2
     else
      v.beginPoll.phase = .rxHdr ∧ v.beginPoll.taken = 0#7 ∧ v.beginPoll.need = 3#7 ∧
        v.beginPoll.timer = s.pollTimeout ∧ v.beginPoll.polls = s.pollsAfter 1) := by
  obtain ⟨empty, receive, -⟩ := State.beginPoll_waitDl h.op
  split
  · next none =>
    rw [empty none]
    exact ⟨rfl, h.pollsLeft, h.wake, h.result, h.done, rfl, rfl,
      v.countPoll_eq_pollsAfter.trans (State.pollsAfter_add h.polls 1)⟩
  · next bytes =>
    rw [receive bytes (h.pollTimeout ▸ window)]
    exact ⟨rfl, h.pollsLeft, h.wake, h.result, h.done, rfl, rfl, rfl, h.pollTimeout, h.polls⟩

end Stored

/-- Settles O38: the frame is stored and its poll counted, and its type decides between the completion and the next
poll. -/
theorem waitDlFrameOutcome : Obligations.WaitDlFrameOutcome := by
  intro s hdr body rest f phase op taken need window quiet frame holds parsed
  have run := State.AtHeader.run_receive ⟨phase, taken, need, quiet⟩ (by simpa only [State.window, op] using window)
    frame holds
  rcases s.collected_checkFrame rest frame with ⟨bad, -⟩ | ⟨f', good, type, checked⟩
  · cases bad.symm.trans parsed
  obtain rfl : f = f' := Option.some.inj (parsed.symm.trans good)
  obtain ⟨three, -, bound⟩ := frame.lengths
  have only := s.onlyReceives_collected hdr body rest
  have stored := only.storedPoll op
  have left : ((s.collected hdr body rest).enter .rxCheck).storedPoll.chanRx = rest := State.storedPoll_chanRx _
  have slots := State.storeFrame_slots (u := ((s.collected hdr body rest).enter .rxCheck).setRx .frame)
    type (s.collected_staged rest frame) (by rw [List.length_append]; omega)
  obtain ⟨keeps, txframe, frameLen⟩ := State.keeps_of_sides (s := s)
    ((s.collected hdr body rest).enter .rxCheck).receiveFrame_hostSide
    ((s.collected hdr body rest).enter .rxCheck).receiveFrame_opSide
  obtain ⟨completes, polls⟩ := State.receiveFrame_of_waitDl (only.op.trans op)
  rw [checked] at run
  refine ⟨_, run, ?_⟩
  by_cases downlink : f.type = s.params.codes.respDownlink
  · rw [if_pos downlink]
    obtain ⟨dlLen, dlslot, respslot, respLen⟩ := (if_pos downlink).mp slots
    rw [completes (type.trans downlink)] at keeps txframe frameLen ⊢
    refine ⟨left, stored.pollsLeft, stored.wake, keeps, txframe, frameLen, ?_, rfl, rfl, dlLen, respslot, respLen,
      dlslot⟩
    have shown : ((s.collected hdr body rest).enter .rxCheck).typeByte = f.type := type
    rw [State.complete_result, stored.op, shown, State.countPoll_eq_pollsAfter]
    rfl
  · rw [if_neg downlink]
    obtain ⟨respLen, respslot, dlslot, dlLen⟩ := (if_neg downlink).mp slots
    obtain ⟨chanRx, pollsLeft, wake, result, done, next⟩ := stored.beginPoll window
    rw [polls fun same => downlink (type.symm.trans same)] at keeps txframe frameLen ⊢
    obtain ⟨sameDlslot, sameDlLen, sameRespslot, sameRespLen⟩ :=
      (State.slotSide_ext _ _).mp (State.beginPoll_slotSide _)
    rw [left] at chanRx next
    exact ⟨chanRx, pollsLeft, wake, keeps, txframe, frameLen, result, done, sameRespLen.trans respLen,
      sameDlslot.trans dlslot, sameDlLen.trans dlLen, fun i => sameRespslot ▸ respslot i, next⟩

end Sys2Proof.Machine
end

section
/-! SUPPORT. The errors of the block: no step stops it (R340), and an illegal payload completes BUILD, SEND and SEND_ACK
before any channel activity (R342). -/

namespace Sys2Proof.Machine

/-- Settles O17: the core's own step, a decoded operation and every other event each have a next state. -/
theorem noErrorStopsTheBlock : Obligations.NoErrorStopsTheBlock := step_next

/-! ### The BUILD step of an illegal payload -/

/-- The BUILD step of an accepted command tests the command's own code and length (R181, R185). -/
theorem State.buildLegal_accept (s : State) (op : Op) (code : Byte) {len : Nat} (fits : len < 256) :
    (s.accept op code len).buildLegal = payloadLegal (classify s.params.codes code) len := by
  rw [State.buildLegal, s.toNat_accept_len op code len fits]
  rfl

/-- An illegal command of an idle block completes with INVALID_ARG in place of whatever follows its BUILD step: only
DONE, RESULT and the operand fields change (R185, R342). -/
theorem State.issue_buildThen_illegal {s : State} (op : Op) {code : Byte} {len : Nat} (next : State → State)
    (idle : s.phase = .idle) (fits : len < 256) (illegal : payloadLegal (classify s.params.codes code) len = false) :
    s.issue op code len (fun t => t.buildThen next) =
      { s with
        done := true, op := op, code := code, len := BitVec.ofNat 8 len
        result := ⟨.invalidArg, false, 0#8, 0#8, op.byte⟩ } := by
  rw [State.issue_idle _ _ _ _ _ (State.busy_of_idle idle)]
  rcases (s.accept op code len).buildThen_cases next with ⟨legal, -⟩ | ⟨-, completes⟩
  · rw [s.buildLegal_accept op code fits, illegal] at legal
    cases legal
  · rw [completes, idle]
    rfl

/-- Settles O23: the three operations differ only in what would follow their BUILD step, which is not reached. -/
theorem illegalPayloadIsInvalidArg : Obligations.IllegalPayloadIsInvalidArg := by
  intro s code len idle fits illegal
  have completes (op : Op) (next : State → State) :=
    congrArg (Host.Outcome.next (φ := Fault) (ρ := Refusal)) (State.issue_buildThen_illegal op next idle fits illegal)
  exact ⟨completes .build _, completes .send _, completes .sendAck _⟩

end Sys2Proof.Machine
end

section
/-! SUPPORT. The host CRC unit is apart from the operations (R398), and the reset state meets the invariant (R381). -/

namespace Sys2Proof.Machine

/-! ### What an accepted operation leaves to the host -/

section Operations

variable (s : State)

theorem State.buildThen_hostSide {next : State → State} (nexts : ∀ u : State, (next u).hostSide = u.hostSide) :
    (s.buildThen next).hostSide = s.hostSide := by
  rcases s.buildThen_cases next with ⟨-, built⟩ | ⟨-, built⟩ <;> rw [built]
  · exact nexts _
  · rfl

theorem State.firstAttempt_hostSide : s.firstAttempt.hostSide = s.hostSide := by
  rcases s.firstAttempt_cases with ⟨-, first⟩ | ⟨-, first⟩ <;> rw [first] <;> rfl

theorem State.firstPoll_hostSide : s.firstPoll.hostSide = s.hostSide := by
  rcases s.firstPoll_cases with ⟨-, first⟩ | ⟨-, first⟩ <;> rw [first]
  · rfl
  · exact (s.setBudget s.len).beginPoll_hostSide

theorem State.copyOut_hostSide (b : Buffer) (n : Len) : (s.copyOut b n).hostSide = s.hostSide := rfl

/-- An operation is the issue of its command, and what an idle block runs for it leaves the host's side (R112). -/
theorem exec_instr (op : Op) (code : Byte) (len : Nat) :
    ∃ run : State → State, exec (op.instr code len) s = .next (s.issue op code len run) ∧
      ∀ u : State, (run u).hostSide = u.hostSide := by
  cases op with
  | build => exact ⟨_, rfl, fun u => u.buildThen_hostSide fun _ => rfl⟩
  | send => exact ⟨_, rfl, fun u => u.buildThen_hostSide State.beginTransmit_hostSide⟩
  | sendAck => exact ⟨_, rfl, fun u => u.buildThen_hostSide State.firstAttempt_hostSide⟩
  | poll => exact ⟨_, rfl, State.beginPoll_hostSide⟩
  | copyDl | copyResp => exact ⟨_, rfl, fun u => u.copyOut_hostSide _ _⟩
  | waitDl => exact ⟨_, rfl, State.firstPoll_hostSide⟩

end Operations

/-! ### CRC_ACC -/

section CrcUnit

variable {s t : State}

/-- What leaves the host's side leaves CRC_ACC (R42). -/
theorem State.crcAcc_of_hostSide (host : t.hostSide = s.hostSide) : t.crcAcc = s.crcAcc :=
  congrArg HostSide.crcAcc host

/-- An operation is refused or runs from the accepted fields, and neither works the CRC unit (R398). -/
theorem exec_instr_crcAcc {op : Op} {code : Byte} {len : Nat} (ran : exec (op.instr code len) s = .next t) :
    t.crcAcc = s.crcAcc := by
  obtain ⟨run, issues, host⟩ := exec_instr s op code len
  obtain rfl := Host.Outcome.next.inj (issues.symm.trans ran)
  rcases s.issue_cases op code len run with ⟨-, issued⟩ | ⟨-, issued⟩ <;> rw [issued]
  · rfl
  · exact State.crcAcc_of_hostSide (host (s.accept op code len))

/-- A bus write that decodes is a write to a register of the CRC unit or leaves CRC_ACC. -/
theorem exec_decoded_crcAcc {b : BusWrite} {i : Instr} (decoded : decode b = .ok i) (ran : exec i s = .next t) :
    b.offset = Reg.crcAcc.offset ∨ b.offset = Reg.crcData.offset ∨ t.crcAcc = s.crcAcc := by
  rcases decode_ok_cases decoded with ⟨-, command⟩ | ⟨seeds, -⟩ | ⟨steps, -⟩
  · obtain ⟨-, op, -, rfl⟩ := (decodeCmd_eq_ok_iff b.data i).mp command
    exact .inr (.inr (exec_instr_crcAcc ran))
  · exact .inl seeds
  · exact .inr (.inl steps)

theorem State.writeReg_crcAcc (s : State) (r : Reg) (w : Word) : (s.writeReg r w).crcAcc = s.crcAcc := by
  cases r with
  | ackTimeout | retryDelay | maxAttempts | pollTimeout | txbuf =>
    rw [State.writeReg]
    rcases s.guarded_cases _ with ⟨-, guard⟩ | ⟨-, guard⟩ <;> rw [guard] <;> rfl
  | _ => rfl

theorem State.writeOther_crcAcc (s : State) (b : BusWrite) (e : DecodeError) :
    (s.writeOther b e).crcAcc = s.crcAcc := by
  cases e with
  | misaligned | unmapped => rfl
  | reservedBits | illegalOp =>
    rw [State.writeOther]
    rcases s.illegal_cases (opField b.data) with ⟨-, done⟩ | ⟨-, done⟩ <;> rw [done] <;> rfl
  | registerWrite r => exact s.writeReg_crcAcc r b.data

/-- An event that starts no operation leaves CRC_ACC, unless it is the reset event. -/
theorem State.perform_crcAcc (s : State) {e : Event} (live : e ≠ .reset) : (s.perform e).crcAcc = s.crcAcc := by
  cases e with
  | write b =>
    rw [State.perform]
    split
    · rfl
    · exact s.writeOther_crcAcc b _
  | read a =>
    obtain ⟨r, n, read⟩ := s.busRead_frame a
    rw [State.perform, read]
  | arrive => rfl
  | accept => exact State.crcAcc_of_hostSide s.acceptByte_hostSide
  | sent => exact State.crcAcc_of_hostSide s.sendOldest_hostSide
  | tick => exact State.crcAcc_of_hostSide s.onTick_hostSide
  | core => exact State.crcAcc_of_hostSide s.coreStep_hostSide
  | reset => exact absurd rfl live

end CrcUnit

/-- Settles O21: of the three kinds of step only a decoded write can change CRC_ACC, and of those only one to a register
of the CRC unit. -/
theorem operationsNeverTouchTheCrcUnit : Obligations.OperationsNeverTouchTheCrcUnit := by
  intro s t stepped notSeed notByte live
  rcases step_cases s with ⟨-, core⟩ | ⟨⟨offset, data⟩, rest, i, inputs, decoded, run⟩ | ⟨e, rest, inputs, -, event⟩
  · obtain rfl := Host.Outcome.next.inj (core.symm.trans stepped)
    exact State.crcAcc_of_hostSide s.coreStep_hostSide
  · have next : s.nextEvent = some (.write ⟨offset, data⟩) := by simp [State.nextEvent, inputs]
    rcases exec_decoded_crcAcc decoded (run.symm.trans stepped) with rfl | rfl | same
    · exact absurd next (notSeed data)
    · exact absurd next (notByte data)
    · exact same
  · obtain rfl := Host.Outcome.next.inj (event.symm.trans stepped)
    have notReset : e ≠ .reset := fun reset => live (by simp [State.nextEvent, inputs, reset])
    exact (s.taking rest).perform_crcAcc notReset

/-! ### The reset state -/

/-- At reset the buffers are empty and the lengths are 0 (R381; log 7). -/
theorem State.stored_reset : State.reset.Stored := ⟨rfl, ⟨rfl, rfl, rfl⟩, rfl, rfl, rfl⟩

/-- Settles O59: the reset state is idle with the wake line high, and what it stores is empty. -/
theorem resetMeetsTheInvariant : Obligations.ResetMeetsTheInvariant :=
  have inv : State.reset.Inv := State.stored_reset.inv_idle rfl rfl
  ⟨inv, inv.buffers⟩

end Sys2Proof.Machine
end
